-- ==== Sys2Proof/Word.lean ====
section
/-! DEFINITION. The words of the Q40: a byte of the link, a logic level, and the numbers that name
a line, a trigger slot and a profile slot. Device times and durations are plain naturals, because the
spec adds them in full and never wraps them (R29); numbers the spec says wrap (sequence numbers,
admission numbers, generations, firing counts, session numbers) are bit vectors. -/

namespace Sys2Proof

/-- One byte of the link (R172, R173). -/
abbrev Byte := BitVec 8

/-- A line number, L00 to L39 (1.1). -/
abbrev LineNo := Fin 40

/-- A trigger slot, T0 to T15 (6.1). -/
abbrev SlotNo := Fin 16

/-- A profile slot of the media, 0 to 3 (R150). -/
abbrev ProfileNo := Fin 4

/-- A 32-bit number that wraps: a sequence number (R44), an admission number (R68), a generation
(R151) or a firing count (R121). -/
abbrev Serial := BitVec 32

/-- A logic level. -/
inductive Level where
  | low
  | high
deriving DecidableEq, Repr, Inhabited

/-- The inverse of a level, as TOGGLE uses it (R7). -/
def Level.inv : Level → Level
  | .low => .high
  | .high => .low

/-- What the circuit outside the part does at a line's pin: it holds the pin low, holds it high, or
leaves it to a pull-up, so that the part's own drive decides (R1, R40). -/
inductive Outside where
  | holdsLow
  | holdsHigh
  | pullUp
deriving DecidableEq, Repr, Inhabited

/-- The five claim classes, in rank order from highest to lowest (R5). -/
inductive ClaimClass where
  | failsafe
  | pin
  | trigger
  | schedule
  | base
deriving DecidableEq, Repr

/-- One frame of the link without its SYNC, LEN and CHECK bytes, which its other fields fix (R173). -/
structure Frame where
  seq : Byte
  kind : Byte
  body : List Byte
deriving DecidableEq, Repr

end Sys2Proof
end

