-- ==== Sys2Proof/Syntax.lean ====
section
/-! DEFINITION. The commands of the Q40: one constructor for each row of spec/opcode_table.json.

The first 42 constructors are the requests of the host. Such a command is the request frame that the
Link Port takes: it carries the frame's SEQ and BODY, byte for byte, and its KIND is the row's own
(10.2); `unknownRequest` carries the KIND too. The others are the events of the link, the pins, the
device clock, the media and the supply; their operands are what the outside world decides in them. -/

namespace Sys2Proof

/-- The commands, in the order of spec/opcode_table.json. -/
inductive Instr where
  -- the session and part requests (7.2 to 7.7, 9.8)
  | identify (seq : Byte) (body : List Byte)
  | status (seq : Byte) (body : List Byte)
  | reset (seq : Byte) (body : List Byte)
  | openSession (seq : Byte) (body : List Byte)
  | renew (seq : Byte) (body : List Byte)
  | close (seq : Byte) (body : List Byte)
  | failsafeNow (seq : Byte) (body : List Byte)
  | recover (seq : Byte) (body : List Byte)
  -- the line requests (1.5 to 1.7, 2.3)
  | configureLines (seq : Byte) (body : List Byte)
  | setBase (seq : Byte) (body : List Byte)
  | setFailsafe (seq : Byte) (body : List Byte)
  | pinLines (seq : Byte) (body : List Byte)
  | unpinLines (seq : Byte) (body : List Byte)
  | readLevels (seq : Byte) (body : List Byte)
  | readLine (seq : Byte) (body : List Byte)
  | setFilterClasses (seq : Byte) (body : List Byte)
  -- the journal requests (3.3 to 3.5)
  | readJournal (seq : Byte) (body : List Byte)
  | releaseJournal (seq : Byte) (body : List Byte)
  | clearJournal (seq : Byte) (body : List Byte)
  | setJournal (seq : Byte) (body : List Byte)
  -- the schedule requests (4.2, 4.6, 4.7)
  | submitAction (seq : Byte) (body : List Byte)
  | cancelAction (seq : Byte) (body : List Byte)
  | cancelGroup (seq : Byte) (body : List Byte)
  | queryAction (seq : Byte) (body : List Byte)
  | listSchedule (seq : Byte) (body : List Byte)
  | readOutcomes (seq : Byte) (body : List Byte)
  -- the trigger requests (6.2, 6.6)
  | defineTrigger (seq : Byte) (body : List Byte)
  | armTrigger (seq : Byte) (body : List Byte)
  | disarmTrigger (seq : Byte) (body : List Byte)
  | deleteTrigger (seq : Byte) (body : List Byte)
  | readTrigger (seq : Byte) (body : List Byte)
  -- the profile requests (8.3 to 8.8)
  | beginProfile (seq : Byte) (body : List Byte)
  | appendRecord (seq : Byte) (body : List Byte)
  | capture (seq : Byte) (body : List Byte)
  | abandonProfile (seq : Byte) (body : List Byte)
  | commitProfile (seq : Byte) (body : List Byte)
  | loadProfile (seq : Byte) (body : List Byte)
  | eraseProfile (seq : Byte) (body : List Byte)
  | setBootSlot (seq : Byte) (body : List Byte)
  | readProfile (seq : Byte) (body : List Byte)
  /-- A waiting frame whose KIND is no request kind is taken (R179). -/
  | unknownRequest (seq kind : Byte) (body : List Byte)
  -- the link events (9.3 to 9.7)
  /-- A whole frame passes its CHECK (R177). -/
  | validFrameArrival (seq kind : Byte) (body : List Byte)
  /-- A valid frame of the ACK kind arrives (R184). -/
  | ack (seq : Byte) (body : List Byte)
  /-- A whole frame fails its CHECK (R177). -/
  | crcError
  /-- The LEN byte of a frame is received and is out of range (R175). -/
  | lenOutOfRange (len : Byte)
  /-- 5,000 µs pass in RECEIVING without a character (R176). -/
  | frameGapTimeout
  /-- A character's stop bit is sampled low (R176). -/
  | characterFault
  /-- A character that would be stored finds the receive buffer full (R178). -/
  | overrun (character : Byte)
  /-- RXD has been low for 2,000 µs (R187). -/
  | lineBreak
  /-- RXD is sampled high after a line break (R187). -/
  | lineBreakEnd
  /-- The last character of a reply has been transmitted (R181). -/
  | replyTransmissionEnd
  /-- The last character of a notice has been transmitted (R183). -/
  | noticeTransmissionEnd
  /-- The retransmission time of the in-flight notice arrives (R183). -/
  | retransmissionTime
  -- the input events and the timed events of the blocks
  /-- The circuit outside does this at the line's pin, and the line is sampled (R30, R34, R35). -/
  | rawChange (line : LineNo) (circuit : Outside)
  /-- The settle of the line completes (R36). -/
  | qualification (line : LineNo)
  /-- The expiry of the line's claim of this class arrives (R8, R18). -/
  | claimExpiry (line : LineNo) (cls : ClaimClass)
  /-- The due time of a TIMED entry arrives, the first in schedule order (R72). -/
  | dueArrival
  /-- The guard deadline of an entry arrives, the first in schedule order (R95). -/
  | guardDeadline
  /-- The fire time of the PENDING slots arrives (R117). -/
  | fireTime
  /-- The holdoff end of the slot arrives (R119). -/
  | holdoffEnd (slot : SlotNo)
  /-- The warning time arrives (R138). -/
  | warningArrival
  /-- The lease deadline arrives (R139). -/
  | leaseExpiry
  /-- The SAFE_N pin is sampled at this level (R142). -/
  | safeNChange (level : Level)
  /-- The settle of SAFE_N completes (R142, R143). -/
  | safeNQualification
  /-- A commit ends; `verified` says whether its verify step found the records as written (R162). -/
  | commitCompletion (verified : Bool)
  /-- The read of a load ends; `checked` says whether the check values match (R164). -/
  | loadCompletion (checked : Bool)
  /-- The first step of an erase ends (R166). -/
  | eraseFirstStepEnd
  /-- The second step of an erase ends (R166). -/
  | eraseCompletion
  /-- A selector write ends; `verified` says whether its verify step found the value (R167). -/
  | bootWriteCompletion (verified : Bool)
  /-- The start-up load ends; `checked` says whether the read profile's check values match (R171). -/
  | startupLoadCompletion (checked : Bool)
  -- the supply, the reset input and the clock (9.8, R28)
  /-- The supply rises into range, with the rate straps at these levels (R172, R189). -/
  | powerOn (rate1 rate0 : Level)
  /-- RST_N has been low for 10 µs, with the rate straps at these levels (R172, R189). -/
  | rstNAssert (rate1 rate0 : Level)
  /-- RST_N returns high (R189). -/
  | rstNRelease
  /-- The device clock would pass its last value (R28). -/
  | clockLimit
  /-- A character is received on RXD (R175). -/
  | characterReceived (character : Byte)
  /-- The supply falls below its range (R189). -/
  | supplyBelowRange
deriving DecidableEq, Repr

end Sys2Proof
end

