-- ==== Sys2Proof/Decode.lean ====
section
/-! DEFINITION. Which command a spelling stands for. spec/opcode_table.json gives none of its rows
any bits, so no word spells a command (`decodeTableWord` answers none). What the spec does give a
request is its message KIND (10.2): here are the KIND of each request command, the frame that a
request command is, and the request command that a frame is. -/

namespace Sys2Proof

/-- The command that a word spells by the bits of spec/opcode_table.json: none, since the table gives
no row any bits. -/
def decodeTableWord (_nbits _w : Nat) : Option Instr := none

/-- The KIND of an acknowledgement (10.2). -/
def ackKind : Byte := 0x70

/-- The request kinds (the table of message kinds in 10.2). -/
def requestKinds : List Byte :=
  [0x01, 0x02, 0x03, 0x08, 0x09, 0x0A, 0x0B, 0x0C, 0x10, 0x11, 0x12, 0x13, 0x14, 0x15, 0x16, 0x18,
   0x20, 0x21, 0x22, 0x23, 0x30, 0x31, 0x32, 0x33, 0x34, 0x35, 0x40, 0x41, 0x42, 0x43, 0x44,
   0x50, 0x51, 0x52, 0x53, 0x54, 0x55, 0x56, 0x57, 0x58]

/-- The request frame that a request command is, and none for an event (10.2, R173). -/
def Instr.frame? : Instr → Option Frame
  | .identify q b => some ⟨q, 0x01, b⟩
  | .status q b => some ⟨q, 0x02, b⟩
  | .reset q b => some ⟨q, 0x03, b⟩
  | .openSession q b => some ⟨q, 0x08, b⟩
  | .renew q b => some ⟨q, 0x09, b⟩
  | .close q b => some ⟨q, 0x0A, b⟩
  | .failsafeNow q b => some ⟨q, 0x0B, b⟩
  | .recover q b => some ⟨q, 0x0C, b⟩
  | .configureLines q b => some ⟨q, 0x10, b⟩
  | .setBase q b => some ⟨q, 0x11, b⟩
  | .setFailsafe q b => some ⟨q, 0x12, b⟩
  | .pinLines q b => some ⟨q, 0x13, b⟩
  | .unpinLines q b => some ⟨q, 0x14, b⟩
  | .readLevels q b => some ⟨q, 0x15, b⟩
  | .readLine q b => some ⟨q, 0x16, b⟩
  | .setFilterClasses q b => some ⟨q, 0x18, b⟩
  | .readJournal q b => some ⟨q, 0x20, b⟩
  | .releaseJournal q b => some ⟨q, 0x21, b⟩
  | .clearJournal q b => some ⟨q, 0x22, b⟩
  | .setJournal q b => some ⟨q, 0x23, b⟩
  | .submitAction q b => some ⟨q, 0x30, b⟩
  | .cancelAction q b => some ⟨q, 0x31, b⟩
  | .cancelGroup q b => some ⟨q, 0x32, b⟩
  | .queryAction q b => some ⟨q, 0x33, b⟩
  | .listSchedule q b => some ⟨q, 0x34, b⟩
  | .readOutcomes q b => some ⟨q, 0x35, b⟩
  | .defineTrigger q b => some ⟨q, 0x40, b⟩
  | .armTrigger q b => some ⟨q, 0x41, b⟩
  | .disarmTrigger q b => some ⟨q, 0x42, b⟩
  | .deleteTrigger q b => some ⟨q, 0x43, b⟩
  | .readTrigger q b => some ⟨q, 0x44, b⟩
  | .beginProfile q b => some ⟨q, 0x50, b⟩
  | .appendRecord q b => some ⟨q, 0x51, b⟩
  | .capture q b => some ⟨q, 0x52, b⟩
  | .abandonProfile q b => some ⟨q, 0x53, b⟩
  | .commitProfile q b => some ⟨q, 0x54, b⟩
  | .loadProfile q b => some ⟨q, 0x55, b⟩
  | .eraseProfile q b => some ⟨q, 0x56, b⟩
  | .setBootSlot q b => some ⟨q, 0x57, b⟩
  | .readProfile q b => some ⟨q, 0x58, b⟩
  | .unknownRequest q k b => some ⟨q, k, b⟩
  | .validFrameArrival _ _ _ => none
  | .ack _ _ => none
  | .crcError => none
  | .lenOutOfRange _ => none
  | .frameGapTimeout => none
  | .characterFault => none
  | .overrun _ => none
  | .lineBreak => none
  | .lineBreakEnd => none
  | .replyTransmissionEnd => none
  | .noticeTransmissionEnd => none
  | .retransmissionTime => none
  | .rawChange _ _ => none
  | .qualification _ => none
  | .claimExpiry _ _ => none
  | .dueArrival => none
  | .guardDeadline => none
  | .fireTime => none
  | .holdoffEnd _ => none
  | .warningArrival => none
  | .leaseExpiry => none
  | .safeNChange _ => none
  | .safeNQualification => none
  | .commitCompletion _ => none
  | .loadCompletion _ => none
  | .eraseFirstStepEnd => none
  | .eraseCompletion => none
  | .bootWriteCompletion _ => none
  | .startupLoadCompletion _ => none
  | .powerOn _ _ => none
  | .rstNAssert _ _ => none
  | .rstNRelease => none
  | .clockLimit => none
  | .characterReceived _ => none
  | .supplyBelowRange => none

/-- The request command that a waiting frame is: the row of its KIND, or `unknownRequest` for a KIND
that is no request kind (10.2, R179). A frame of the ACK kind never waits (R177), and is given the
`unknownRequest` row here only so that the function is total. -/
def Instr.ofFrame (f : Frame) : Instr :=
  match f.kind.toNat with
  | 0x01 => .identify f.seq f.body
  | 0x02 => .status f.seq f.body
  | 0x03 => .reset f.seq f.body
  | 0x08 => .openSession f.seq f.body
  | 0x09 => .renew f.seq f.body
  | 0x0A => .close f.seq f.body
  | 0x0B => .failsafeNow f.seq f.body
  | 0x0C => .recover f.seq f.body
  | 0x10 => .configureLines f.seq f.body
  | 0x11 => .setBase f.seq f.body
  | 0x12 => .setFailsafe f.seq f.body
  | 0x13 => .pinLines f.seq f.body
  | 0x14 => .unpinLines f.seq f.body
  | 0x15 => .readLevels f.seq f.body
  | 0x16 => .readLine f.seq f.body
  | 0x18 => .setFilterClasses f.seq f.body
  | 0x20 => .readJournal f.seq f.body
  | 0x21 => .releaseJournal f.seq f.body
  | 0x22 => .clearJournal f.seq f.body
  | 0x23 => .setJournal f.seq f.body
  | 0x30 => .submitAction f.seq f.body
  | 0x31 => .cancelAction f.seq f.body
  | 0x32 => .cancelGroup f.seq f.body
  | 0x33 => .queryAction f.seq f.body
  | 0x34 => .listSchedule f.seq f.body
  | 0x35 => .readOutcomes f.seq f.body
  | 0x40 => .defineTrigger f.seq f.body
  | 0x41 => .armTrigger f.seq f.body
  | 0x42 => .disarmTrigger f.seq f.body
  | 0x43 => .deleteTrigger f.seq f.body
  | 0x44 => .readTrigger f.seq f.body
  | 0x50 => .beginProfile f.seq f.body
  | 0x51 => .appendRecord f.seq f.body
  | 0x52 => .capture f.seq f.body
  | 0x53 => .abandonProfile f.seq f.body
  | 0x54 => .commitProfile f.seq f.body
  | 0x55 => .loadProfile f.seq f.body
  | 0x56 => .eraseProfile f.seq f.body
  | 0x57 => .setBootSlot f.seq f.body
  | 0x58 => .readProfile f.seq f.body
  | _ => .unknownRequest f.seq f.kind f.body

end Sys2Proof
end

