-- ==== Sys2Proof/Config.lean ====
section
/-! DEFINITION. The free values: what the spec leaves open and the model leaves open with it. None of
them has a body, so nothing can be proved about the value of one. Each is applied to a plain counter
of the state, `State.freeIx`, that counts on with every use, so that one use says nothing of another. -/

namespace Sys2Proof

/-- The number by which the part picks one of several events or orders that the spec lets come in
either order (R8, R37, R38, R51, R64, R86, R118, R144 and the other "either may be taken first" rules).
FREE VALUE, assumption 3. -/
opaque Config.choice : Nat → Nat

/-- Whether the non-volatile media fails the operation that drew this number: the verify step of a
commit or of a selector write finds a difference (R162, R167), or the check value of a read profile
does not match (R164, R171). FREE VALUE, assumption 4. -/
opaque Config.mediaFault : Nat → Bool

/-- Whether the part takes copy 1, and not copy 0, as the loadable one of two VALID copies of EQUAL
generation, for which R151 states no choice. FREE VALUE, assumption 5. -/
opaque Config.equalGenerationTakesCopy1 : Bool

/-- The level that a rate strap has at a start-up reset with cause REQUEST or CLOCK, which samples the
straps as the board has them then (R172); no command of the table says so. FREE VALUE, assumption 13. -/
opaque Config.strapLevel : Nat → Level

end Sys2Proof
end

