-- ==== Sys2Proof/Machine/State.lean ====
section
/-! DEFINITION. The state of the Q40, block by block as the spec's block overview gives it, the faults
and refusals, and the state right after reset. Everything is plain data. -/

namespace Sys2Proof.Machine

/-! ### Drive Arbiter and Input Sensing Unit: the 40 lines -/

/-- The four line modes (R1). -/
inductive Mode where
  | park
  | input
  | drive
  | sink
deriving DecidableEq, Repr

/-- The journal sense of a line (1.2, R47). -/
inductive Sense where
  | none
  | rise
  | fall
  | both
deriving DecidableEq, Repr

/-- The failsafe spec of a line (1.2, R23). -/
inductive FailsafeSpec where
  | base
  | low
  | high
  | hold
deriving DecidableEq, Repr

/-- The line configuration record, five fields stored in every mode (1.2, R2). -/
structure LineConfig where
  mode : Mode
  base : Level
  cls : Fin 4
  sense : Sense
  failsafe : FailsafeSpec
deriving DecidableEq, Repr

/-- The factory configuration (R3). -/
def LineConfig.factory : LineConfig := ⟨.park, .low, 0, .none, .base⟩

/-- The origin recorded in a claim: none, an action id or a trigger slot (1.3). -/
inductive Origin where
  | none
  | action (id : Nat)
  | slot (slot : SlotNo)
deriving DecidableEq, Repr

/-- One claim; its class is the place it has in the claim set (1.3). -/
structure Claim where
  level : Level
  origin : Origin
  expiry : Option Nat
deriving DecidableEq, Repr

/-- The claim set of a line: at most one claim of each class (R4). -/
structure ClaimSet where
  failsafe : Option Claim
  pin : Option Claim
  trigger : Option Claim
  schedule : Option Claim
  base : Option Claim
deriving DecidableEq, Repr

/-- The empty claim set of a PARK or INPUT line (R4). -/
def ClaimSet.empty : ClaimSet := ⟨.none, .none, .none, .none, .none⟩

/-- A settle in progress: its onset time and its settle duration, fixed when it begins (R34). -/
structure Settle where
  onset : Nat
  duration : Nat
deriving DecidableEq, Repr

/-- The filter of a sensed line (2.4). `raw` is the most recent sample (R30). `drive` is the model's
own: the line's own drive as the pin had it at the last advance of the clock, none when not driven,
because a sample reads the pin as it stood before the events of its device time (R30). `sampled` is the
model's own too: whether the one sample of the present device time has been taken (R30; assumption 24). -/
structure Filter where
  raw : Level
  filtered : Level
  settle : Option Settle
  drive : Option Level
  sampled : Bool
deriving DecidableEq, Repr

/-- One line: its configuration, claim set and reference count (DA), its filter while it is sensed
and its glitch count (ISU), and the circuit outside at its pin. -/
structure Line where
  config : LineConfig
  claims : ClaimSet
  refs : Nat
  filter : Option Filter
  glitches : Nat
  circuit : Outside
deriving DecidableEq, Repr

/-- A line after start-up reset (R3, R42), with the given circuit at its pin. -/
def Line.afterReset (circuit : Outside) : Line :=
  ⟨.factory, .empty, 0, .none, 0, circuit⟩

/-! ### Edge Journal -/

/-- The direction of an edge event (R36). -/
inductive Direction where
  | rise
  | fall
deriving DecidableEq, Repr

/-- An edge event of the ISU (R36). -/
structure Edge where
  line : LineNo
  direction : Direction
  onset : Nat
  qualified : Nat
deriving DecidableEq, Repr

/-- A journal record (R45, R46). A bank snapshot is a level set: bit 0 is the bank's lowest line and
a set bit is HIGH (R192). -/
inductive JournalRecord where
  | edge (seq : Serial) (line : LineNo) (direction : Direction) (onset : Nat) (bank : Byte)
  | gap (seq : Serial) (lost first last : Nat) (isOpen : Bool)
deriving DecidableEq, Repr

/-- The state of the Edge Journal (3.1): the held records, oldest first. -/
structure Journal where
  records : List JournalRecord
  nextSeq : Serial
  threshold : Nat
  armed : Bool
deriving DecidableEq, Repr

/-- The journal after start-up reset (R59). -/
def Journal.afterReset : Journal := ⟨[], 1, 1, true⟩

/-! ### Action Scheduler -/

/-- A target value of an action or a trigger (R7). -/
inductive TargetValue where
  | low
  | high
  | toggle
  | release
deriving DecidableEq, Repr

/-- One target: a line and a target value. -/
structure Target where
  line : LineNo
  value : TargetValue
deriving DecidableEq, Repr

/-- The mode of a guard; WAIT carries its wait limit (4.1, R91). -/
inductive GuardMode where
  | skip
  | wait (limit : Nat)
deriving DecidableEq, Repr

/-- The guard part of an action (R91). -/
structure Guard where
  line : LineNo
  wanted : Level
  mode : GuardMode
deriving DecidableEq, Repr

/-- The repeat part of an action; count 0 repeats indefinitely (R98). -/
structure Repeat where
  period : Nat
  count : Nat
deriving DecidableEq, Repr

/-- The chain part of an action (R102). -/
structure Chain where
  predecessor : Nat
  offset : Nat
deriving DecidableEq, Repr

/-- The action record as admitted (4.1), less its due field, which the entry's state keeps in absolute
form (R61). -/
structure Action where
  id : Nat
  notify : Bool
  group : Nat
  targets : List Target
  hold : Option Nat
  guard : Option Guard
  rep : Option Repeat
  chain : Option Chain
deriving DecidableEq, Repr

/-- The state of an entry, with the times it has in that state (R61, R70). -/
inductive EntryState where
  | timed (due : Nat)
  | guardWait (due deadline : Nat)
  | waitingPred
deriving DecidableEq, Repr

/-- A queued entry (R61). -/
structure Entry where
  action : Action
  admission : Serial
  state : EntryState
  applied : Nat
  skipped : Nat
  lastApplied : Option Nat
deriving DecidableEq, Repr

/-- What cancelled an entry (R77). -/
inductive CancelCause where
  | host
  | hostGroup
  | trigger (slot : SlotNo)
  | close
deriving DecidableEq, Repr

/-- How an entry left the schedule, with the detail its outcome record carries (R77). -/
inductive EntryOutcome where
  | applied
  | skipped
  | expired
  | cancelled (cause : CancelCause)
  | orphaned (predecessor : Nat)
  | aborted
deriving DecidableEq, Repr

/-- An outcome record (R77). -/
structure OutcomeRecord where
  id : Nat
  outcome : EntryOutcome
  completion : Nat
  applied : Nat
  skipped : Nat
deriving DecidableEq, Repr

/-- The state of the Action Scheduler (4.1). The entries stand in admission order, which R69 says the
part keeps; schedule order (R71) is computed from it. -/
structure Schedule where
  entries : List Entry
  counter : Serial
  outcomes : List OutcomeRecord
deriving DecidableEq, Repr

/-- The schedule after start-up reset (R90). -/
def Schedule.afterReset : Schedule := ⟨[], 0, []⟩

/-! ### Trigger Unit -/

/-- The edge field of a trigger definition (6.1). -/
inductive EdgeChoice where
  | rise
  | fall
  | either
deriving DecidableEq, Repr

/-- The qualifier of a trigger definition (6.1). -/
structure Qualifier where
  line : LineNo
  level : Level
deriving DecidableEq, Repr

/-- The pending policy (R115). -/
inductive PendingPolicy where
  | ignore
  | restart
deriving DecidableEq, Repr

/-- The trigger mode; REARM carries its holdoff (R119). -/
inductive TriggerMode where
  | oneshot
  | rearm (holdoff : Nat)
deriving DecidableEq, Repr

/-- A trigger definition, less its slot number (6.1). -/
structure TriggerDef where
  watched : LineNo
  edge : EdgeChoice
  qualifier : Option Qualifier
  delay : Nat
  policy : PendingPolicy
  mode : TriggerMode
  targets : List Target
  hold : Option Nat
  cancelGroup : Nat
  notify : Bool
deriving DecidableEq, Repr

/-- What a defined slot is doing, with its fire time or holdoff end (R111). A slot without a definition
is EMPTY and idle. -/
inductive Phase where
  | idle
  | armed
  | pending (fireTime : Nat)
  | holdoff (holdoffEnd : Nat)
deriving DecidableEq, Repr

/-- A trigger slot (6.1). -/
structure Slot where
  definition : Option TriggerDef
  phase : Phase
  firings : Serial
  suppressed : Nat
  unqualified : Nat
deriving DecidableEq, Repr

/-- An EMPTY slot (R130). -/
def Slot.empty : Slot := ⟨.none, .idle, 0, 0, 0⟩

/-! ### Session Monitor -/

/-- The session states (R132). -/
inductive SessionState where
  | noSession
  | active
  | failsafe
deriving DecidableEq, Repr

/-- The causes of failsafe (R144). -/
inductive FailsafeCause where
  | lease
  | request
  | line
deriving DecidableEq, Repr

/-- The failsafe record: first cause, entry time and cause set (R144, R145). -/
structure FailsafeRecord where
  first : FailsafeCause
  time : Nat
  hasLease : Bool
  hasRequest : Bool
  hasLine : Bool
deriving DecidableEq, Repr

/-- The filter of the SAFE_N input: its most recent sample, its filtered level, ASSERTED or not, and the
onset of a settle in progress (R142). `sampled` is the model's own: whether the one sample of the present
device time has been taken (assumption 24). -/
structure SafeFilter where
  raw : Level
  asserted : Bool
  onset : Option Nat
  sampled : Bool
deriving DecidableEq, Repr

/-- The state of the Session Monitor (7.1). -/
structure Session where
  state : SessionState
  number : BitVec 16
  lease : Nat
  deadline : Option Nat
  warning : Option Nat
  record : Option FailsafeRecord
  safeN : SafeFilter
deriving DecidableEq, Repr

/-- The Session Monitor after a start-up reset that found the SAFE_N pin at this level (R149). -/
def Session.afterReset (safeN : Level) : Session :=
  ⟨.noSession, 0, 0, .none, .none, .none, ⟨safeN, safeN == .low, .none, true⟩⟩

/-! ### Profile Store -/

/-- One of the two copies of a slot or of the selector (R150, R152). -/
inductive CopyNo where
  | copy0
  | copy1
deriving DecidableEq, Repr

/-- The condition of a copy, with what a VALID copy holds (R150). -/
inductive Copy (α : Type) where
  | erased
  | invalid
  | valid (generation : Serial) (content : α)
deriving DecidableEq, Repr

/-- The two copies of a profile slot or of the boot selector (R150, R152). -/
structure CopyPair (α : Type) where
  copy0 : Copy α
  copy1 : Copy α
deriving DecidableEq, Repr

/-- A profile record (R153). -/
inductive ProfileRecord where
  | lines (first : LineNo) (configs : List LineConfig)
  | filters (times : Vector Nat 4)
  | journal (threshold : Nat)
  | trigger (slot : SlotNo) (definition : TriggerDef) (armAtLoad : Bool)
  | label (characters : List Byte)
deriving DecidableEq, Repr

/-- The non-volatile media: four profile slots and the boot selector, whose value names a profile slot
or NONE (R150, R152). -/
structure Media where
  slots : Vector (CopyPair (List ProfileRecord)) 4
  selector : CopyPair (Option ProfileNo)
deriving DecidableEq, Repr

/-- The media as shipped: every copy ERASED (R150). -/
def Media.shipped : Media :=
  ⟨Vector.replicate 4 ⟨.erased, .erased⟩, ⟨.erased, .erased⟩⟩

/-- The staging state with its slot and list (R154). -/
inductive Staging where
  | idle
  | staging (slot : ProfileNo) (records : List ProfileRecord)
  | committing (slot : ProfileNo) (records : List ProfileRecord)
deriving DecidableEq, Repr

/-- The operation in flight (R155), with the time it started, the copy it writes or erases first, and
the generation it writes. `draw` is the model's own: the number of the free value that says whether
the media fails this operation. -/
inductive Operation where
  | none
  | committing (slot : ProfileNo) (copy : CopyNo) (generation : Serial) (started draw : Nat)
  | loading (slot : ProfileNo) (started : Nat)
  | erasing (slot : ProfileNo) (first : CopyNo) (started : Nat) (second : Bool)
  | bootWrite (value : Option ProfileNo) (copy : CopyNo) (generation : Serial) (started draw : Nat)
deriving DecidableEq, Repr

/-- The store operations a last-result record names (R169). -/
inductive StoreOp where
  | commit
  | load
  | erase
  | setBootSlot
deriving DecidableEq, Repr

/-- The results of a store operation (R169). -/
inductive StoreResult where
  | ok
  | storeFault
  | corrupt
  | aborted
deriving DecidableEq, Repr

/-- The last-result record (R169); slot none is NONE. -/
structure LastResult where
  op : StoreOp
  slot : Option ProfileNo
  result : StoreResult
  time : Nat
deriving DecidableEq, Repr

/-- The boot result (R171, R188): IN_PROGRESS while the start-up load runs. -/
inductive BootResult where
  | inProgress
  | loaded
  | none
  | empty
  | corrupt
deriving DecidableEq, Repr

/-- The state of the Profile Store (chapter 8). -/
structure Store where
  media : Media
  staging : Staging
  operation : Operation
  lastResult : Option LastResult
  label : Option (List Byte)
  bootResult : BootResult
  bootSlot : Option ProfileNo
deriving DecidableEq, Repr

/-- The Profile Store right after a start-up reset that left this media (R154, R155, R168, R171). -/
def Store.afterReset (media : Media) : Store :=
  ⟨media, .idle, .none, .none, .none, .inProgress, .none⟩

/-! ### Link Port -/

/-- The link rates (R172). -/
inductive Rate where
  | baud115200
  | baud460800
  | baud1000000
  | baud3000000
deriving DecidableEq, Repr

/-- The framer (R175): in RECEIVING, the bytes stored of the partial frame, oldest first, and the
arrival time of the last of them (R176). -/
inductive Framer where
  | hunting
  | receiving (bytes : List Byte) (lastAt : Nat)
deriving DecidableEq, Repr

/-- The reply cache when it is not empty (R180). -/
structure CacheEntry where
  seq : Byte
  kind : Byte
  reply : Frame
deriving DecidableEq, Repr

/-- The content of a notice (9.6). -/
inductive NoticeContent where
  | actionDone (record : OutcomeRecord)
  | triggerFired (slot : SlotNo) (firings : Serial) (time : Nat)
  | journalReady (held : Nat) (oldest : Serial)
  | leaseWarning (remaining : Nat)
  | failsafeEntered (cause : FailsafeCause) (time : Nat)
  | storeDone (op : StoreOp) (slot : Option ProfileNo) (result : StoreResult)
deriving DecidableEq, Repr

/-- A queued notice with its number and lost-before flag (R182). -/
structure Notice where
  number : Byte
  lostBefore : Bool
  content : NoticeContent
deriving DecidableEq, Repr

/-- The in-flight record of the oldest notice (R183): its transmission count, whether it is due for a
transmission, and its retransmission time. -/
structure InFlight where
  count : Nat
  due : Bool
  retransmitAt : Option Nat
deriving DecidableEq, Repr

/-- No notice in flight. -/
def InFlight.none : InFlight := ⟨0, false, .none⟩

/-- The transmitter (R181): what TXD carries and since when. -/
inductive Tx where
  | idle
  | reply (frame : Frame) (since : Nat)
  | notice (frame : Frame) (since : Nat)
deriving DecidableEq, Repr

/-- The kind of frame transmitted last, by which the transmitter chooses (R181). -/
inductive Sent where
  | nothing
  | reply
  | notice
deriving DecidableEq, Repr

/-- What the receiver's events tell of RXD (R176, R187; assumption 21): it was high at a device time and no
character fault has come since, or it can have been low without interruption since a device time. -/
inductive Rxd where
  | high (time : Nat)
  | low (since : Nat)
deriving DecidableEq, Repr

/-- The state of the Link Port (chapter 9). `waiting` are the valid request frames of the receive
buffer, oldest first; the framer holds the buffer's other bytes. `reply` is a reply that is ready and
waits for TXD; `resetPending` says that the reply being sent is that of a RESET (R190). `deafUntil` is the
earliest device time at which a character can arrive after the last character fault or line break (R176,
R187; assumption 23). -/
structure Link where
  rate : Rate
  framer : Framer
  waiting : List Frame
  cache : Option CacheEntry
  notices : List Notice
  inFlight : InFlight
  nextNumber : Byte
  lossMark : Bool
  lost : Nat
  crcErrors : Nat
  framingErrors : Nat
  overruns : Nat
  tx : Tx
  reply : Option Frame
  lastSent : Sent
  breakSince : Option Nat
  resetPending : Bool
  deafUntil : Nat
  rxd : Rxd
deriving DecidableEq, Repr

/-- The rate that the straps RATE1 and RATE0 select (R172). -/
def Rate.ofStraps : Level → Level → Rate
  | .low, .low => .baud115200
  | .low, .high => .baud460800
  | .high, .low => .baud1000000
  | .high, .high => .baud3000000

/-- The Link Port after a start-up reset that sampled this rate (R191); a low RXD is timed from the reset. -/
def Link.afterReset (rate : Rate) : Link :=
  ⟨rate, .hunting, [], .none, [], .none, 1, false, 0, 0, 0, 0, .idle, .none, .nothing, .none, false, 0,
    .low 0⟩

/-! ### The part -/

/-- The cause of the most recent start-up reset (R189). -/
inductive ResetCause where
  | power
  | line
  | request
  | clock
deriving DecidableEq, Repr

/-- The pins that are no line of the part: the supply in range, RST_N, the rate straps and SAFE_N. -/
structure Pins where
  supplyInRange : Bool
  rstN : Level
  rate1 : Level
  rate0 : Level
  safeN : Level
deriving DecidableEq, Repr

/-- The state of the part. `pending` are the commands that wait, first in, first out; `now` is the
device clock (R27); `settleTimes` are S0 to S3 (R31); `freeIx` is the model's own counter, the number
of the next free value (Config.lean). -/
structure State where
  pending : List Instr
  pins : Pins
  resetCause : ResetCause
  now : Nat
  settleTimes : Vector Nat 4
  lines : Vector Line 40
  journal : Journal
  schedule : Schedule
  slots : Vector Slot 16
  session : Session
  store : Store
  link : Link
  freeIx : Nat
deriving DecidableEq, Repr

/-- The reasons a step stops with a fault: none. Every command of the table has an effect that the
spec gives, or changes nothing because its event cannot happen, so the type has no constructor (safe:
nothing is hidden behind a fault). -/
inductive Fault where
deriving DecidableEq, Repr

/-- The reasons a step is refused. -/
inductive Refusal where
  /-- Raised by an arm of `exec` for a row that has no meaning yet (safe: the machine stops and
  nothing is claimed of it). No arm raises it. -/
  | notModelled (mnemonic : String)
deriving DecidableEq, Repr

/-- The factory settle times S0 to S3 (R31, R42). -/
def factorySettleTimes : Vector Nat 4 := #v[0, 100, 1000, 10000]

/-- The part right after the start-up reset of a power-on, at device time 0, as shipped (R150), before
the start-up load has done anything (R3, R42, R59, R90, R130, R149, R171, R191). The levels of the
pins are inputs of the part and no reset value of the spec; the ones named here are assumption 2. -/
def State.reset : State where
  pending := []
  pins := ⟨true, .high, .low, .low, .high⟩
  resetCause := .power
  now := 0
  settleTimes := factorySettleTimes
  lines := Vector.replicate 40 (.afterReset .pullUp)
  journal := .afterReset
  schedule := .afterReset
  slots := Vector.replicate 16 .empty
  session := .afterReset .high
  store := .afterReset .shipped
  link := .afterReset .baud115200
  freeIx := 0

end Sys2Proof.Machine
end

