-- ==== Sys2Proof/Machine/Bytes.lean ====
section
/-! DEFINITION. The encoding conventions of every message and record (R192), the frame and its CRC
(R173, R174), and the fields of a body. -/

namespace Sys2Proof.Machine

/-- The last value the device clock takes (R28). -/
def lastTime : Nat := 281474976710655

/-- A number in `width` bytes, least significant byte first (R192). -/
def leBytes : Nat → Nat → List Byte
  | 0, _ => []
  | width + 1, n => BitVec.ofNat 8 n :: leBytes width (n / 256)

/-- The number that bytes carry, least significant byte first (R192). -/
def leNat : List Byte → Nat
  | [] => 0
  | b :: bs => b.toNat + 256 * leNat bs

/-- One byte that holds a number below 256. -/
def oneByte (n : Nat) : Byte := BitVec.ofNat 8 n

/-- An absolute device time in 6 bytes; a time beyond the clock's last value is carried as that value
(R29, R192). -/
def timeBytes (t : Nat) : List Byte := leBytes 6 (min t lastTime)

/-- A flag byte (R192). -/
def flagByte (b : Bool) : Byte := if b then 1 else 0

/-- An optional time: a presence flag and 6 bytes, 0 when absent (R194). -/
def optTimeBytes : Option Nat → List Byte
  | none => flagByte false :: leBytes 6 0
  | some t => flagByte true :: timeBytes t

/-- The `width` bytes of a body from an offset. -/
def slice (body : List Byte) (offset width : Nat) : List Byte := (body.drop offset).take width

/-- The number in a field of a body. -/
def field (body : List Byte) (offset width : Nat) : Nat := leNat (slice body offset width)

/-- The number in a one-byte field of a body. -/
def byteAt (body : List Byte) (offset : Nat) : Nat := (body.getD offset 0).toNat

/-- Whether every byte of a part of a body is 0, as R194 asks of an absent part, a reserved field and
an unused place. -/
def zeroAt (body : List Byte) (offset width : Nat) : Bool :=
  (slice body offset width).all (· == 0)

/-- The first `count` items of `size` bytes each. -/
def chunks (size : Nat) : Nat → List Byte → List (List Byte)
  | 0, _ => []
  | count + 1, bs => bs.take size :: chunks size count (bs.drop size)

/-- The results of a check made item by item, or none when one fails. -/
def allSome {α β : Type} (f : α → Option β) : List α → Option (List β)
  | [] => some []
  | a :: as =>
    match f a, allSome f as with
    | some b, some bs => some (b :: bs)
    | _, _ => none

/-- One bit into the CRC register (R174): the generator is x^16 + x^12 + x^5 + 1. -/
def crcBit (r : BitVec 16) : BitVec 16 :=
  if r.msb then (r <<< 1) ^^^ 0x1021#16 else r <<< 1

/-- One byte into the CRC register, most significant bit first (R174). -/
def crcByte (r : BitVec 16) (b : Byte) : BitVec 16 :=
  let x := r ^^^ (b.setWidth 16 <<< 8)
  crcBit (crcBit (crcBit (crcBit (crcBit (crcBit (crcBit (crcBit x)))))))

/-- The CRC of a run of bytes, from the register at 0xFFFF (R174). -/
def crc (bs : List Byte) : BitVec 16 := bs.foldl crcByte 0xFFFF#16

/-- The SYNC byte (R173). -/
def syncByte : Byte := 0xC3

/-- The levels of one UART character, bit time by bit time: a start bit, the 8 data bits, least significant
first, and a stop bit (R172). -/
def uartLevels (b : Byte) : List Level :=
  .low :: ((List.finRange 8).map fun k => if b.getLsbD k.val then Level.high else .low) ++ [.high]

end Sys2Proof.Machine

namespace Sys2Proof.Frame
open Sys2Proof.Machine

/-- The bytes of a frame from LEN through the last byte of BODY (R173). -/
def checked (f : Frame) : List Byte :=
  oneByte (f.body.length + 2) :: f.seq :: f.kind :: f.body

/-- The two CHECK bytes of a run of checked bytes, high byte first (R174). -/
def checkBytes (bs : List Byte) : List Byte :=
  [(crc bs).extractLsb' 8 8, (crc bs).extractLsb' 0 8]

/-- The whole frame as the link carries it (R173). -/
def bytes (f : Frame) : List Byte := syncByte :: (checked f ++ checkBytes (checked f))

/-- The number of bytes of a frame (R173). -/
def size (f : Frame) : Nat := f.body.length + 6

/-- The levels of a frame on TXD, bit time by bit time, its characters back to back (R172). -/
def levels (f : Frame) : List Level := f.bytes.flatMap uartLevels

/-- The valid frame that these bytes are, SYNC first, or none when they fail the check (R174, R177). -/
def ofBytes (bs : List Byte) : Option Frame :=
  let inner := (bs.drop 1).take (bs.length - 3)
  if bs.drop (bs.length - 2) = checkBytes inner then
    some ⟨inner.getD 1 0, inner.getD 2 0, inner.drop 3⟩
  else none

end Sys2Proof.Frame
end

