-- ==== Sys2Proof/Machine/Codes.lean ====
section
/-! DEFINITION. The codes of the named values (10.3) and of the statuses (10.2): each value's code, and
the value that a code in a request is, none for a code outside those defined (R192). -/

namespace Sys2Proof.Machine

/-- The status codes (10.2). -/
inductive Status where
  | ok | started | unknownKind | badLength | badValue | noSession | failsafe | alreadyOpen
  | safeAsserted | starting | lineInUse | badTarget | badGuard | tooLate | outOfRange
  | scheduleFull | duplicateId | notFound | badChain | triggerBusy | storeBusy | loading
  | notStaging | stageOpen | profileFull | slotEmpty | invalidProfile
deriving DecidableEq, Repr

/-- The code of a status (10.2). -/
def Status.code : Status → Byte
  | .ok => 0x00
  | .started => 0x01
  | .unknownKind => 0x10
  | .badLength => 0x11
  | .badValue => 0x12
  | .noSession => 0x20
  | .failsafe => 0x21
  | .alreadyOpen => 0x22
  | .safeAsserted => 0x23
  | .starting => 0x24
  | .lineInUse => 0x30
  | .badTarget => 0x31
  | .badGuard => 0x32
  | .tooLate => 0x40
  | .outOfRange => 0x41
  | .scheduleFull => 0x42
  | .duplicateId => 0x43
  | .notFound => 0x44
  | .badChain => 0x45
  | .triggerBusy => 0x50
  | .storeBusy => 0x60
  | .loading => 0x61
  | .notStaging => 0x62
  | .stageOpen => 0x63
  | .profileFull => 0x64
  | .slotEmpty => 0x65
  | .invalidProfile => 0x66

/-! ### Codes that requests carry -/

/-- A flag: 0 clear, 1 set (R192). -/
def flagOf? : Nat → Option Bool
  | 0 => some false
  | 1 => some true
  | _ => none

/-- A line number 0..39. -/
def lineOf? (n : Nat) : Option LineNo := if h : n < 40 then some ⟨n, h⟩ else none

/-- A trigger slot 0..15. -/
def slotOf? (n : Nat) : Option SlotNo := if h : n < 16 then some ⟨n, h⟩ else none

/-- A profile slot 0..3. -/
def profileOf? (n : Nat) : Option ProfileNo := if h : n < 4 then some ⟨n, h⟩ else none

/-- A filter class 0..3. -/
def classOf? (n : Nat) : Option (Fin 4) := if h : n < 4 then some ⟨n, h⟩ else none

def levelOf? : Nat → Option Level
  | 0 => some .low
  | 1 => some .high
  | _ => none

def modeOf? : Nat → Option Mode
  | 0 => some .park
  | 1 => some .input
  | 2 => some .drive
  | 3 => some .sink
  | _ => none

def senseOf? : Nat → Option Sense
  | 0 => some .none
  | 1 => some .rise
  | 2 => some .fall
  | 3 => some .both
  | _ => none

def failsafeSpecOf? : Nat → Option FailsafeSpec
  | 0 => some .base
  | 1 => some .low
  | 2 => some .high
  | 3 => some .hold
  | _ => none

def targetValueOf? : Nat → Option TargetValue
  | 0 => some .low
  | 1 => some .high
  | 2 => some .toggle
  | 3 => some .release
  | _ => none

def edgeChoiceOf? : Nat → Option EdgeChoice
  | 0 => some .rise
  | 1 => some .fall
  | 2 => some .either
  | _ => none

def policyOf? : Nat → Option PendingPolicy
  | 0 => some .ignore
  | 1 => some .restart
  | _ => none

/-- A profile slot field: 0..3, or 0xFF for NONE (10.3). -/
def profileFieldOf? (n : Nat) : Option (Option ProfileNo) :=
  if n = 0xFF then some none
  else match profileOf? n with
    | some p => some (some p)
    | none => none

end Sys2Proof.Machine

namespace Sys2Proof

def Level.code : Level → Byte
  | .low => 0
  | .high => 1

/-- The code of a claim class; 0 is the absent class (10.3). -/
def ClaimClass.code : ClaimClass → Byte
  | .failsafe => 1
  | .pin => 2
  | .trigger => 3
  | .schedule => 4
  | .base => 5

end Sys2Proof

namespace Sys2Proof.Machine

/-! ### Codes of the values that replies, notices and records carry -/

def Mode.code : Mode → Byte
  | .park => 0
  | .input => 1
  | .drive => 2
  | .sink => 3

def Sense.code : Sense → Byte
  | .none => 0
  | .rise => 1
  | .fall => 2
  | .both => 3

def FailsafeSpec.code : FailsafeSpec → Byte
  | .base => 0
  | .low => 1
  | .high => 2
  | .hold => 3

def TargetValue.code : TargetValue → Byte
  | .low => 0
  | .high => 1
  | .toggle => 2
  | .release => 3

def EdgeChoice.code : EdgeChoice → Byte
  | .rise => 0
  | .fall => 1
  | .either => 2

def PendingPolicy.code : PendingPolicy → Byte
  | .ignore => 0
  | .restart => 1

def Direction.code : Direction → Byte
  | .rise => 0
  | .fall => 1

/-- A claim origin in 2 bytes (10.3). -/
def Origin.bytes : Origin → List Byte
  | .none => leBytes 2 0
  | .action id => leBytes 2 id
  | .slot k => leBytes 2 k.val

def EntryState.code : EntryState → Byte
  | .timed _ => 0
  | .guardWait _ _ => 1
  | .waitingPred => 2

def EntryOutcome.code : EntryOutcome → Byte
  | .applied => 0
  | .skipped => 1
  | .expired => 2
  | .cancelled _ => 3
  | .orphaned _ => 4
  | .aborted => 5

/-- The detail of an outcome record (R197): the cancel cause and the slot for CANCELLED, the
predecessor id for ORPHANED, and 0 otherwise. -/
def EntryOutcome.detail : EntryOutcome → List Byte
  | .cancelled .host => [1, 0]
  | .cancelled .hostGroup => [2, 0]
  | .cancelled (.trigger k) => [3, oneByte k.val]
  | .cancelled .close => [4, 0]
  | .orphaned pred => leBytes 2 pred
  | _ => [0, 0]

def SessionState.code : SessionState → Byte
  | .noSession => 0
  | .active => 1
  | .failsafe => 2

def FailsafeCause.code : FailsafeCause → Byte
  | .lease => 1
  | .request => 2
  | .line => 3

/-- The cause set in one byte (10.3). -/
def FailsafeRecord.causeByte (r : FailsafeRecord) : Byte :=
  (if r.hasLease then 1 else 0) + (if r.hasRequest then 2 else 0) + (if r.hasLine then 4 else 0)

def StoreOp.code : StoreOp → Byte
  | .commit => 1
  | .load => 2
  | .erase => 3
  | .setBootSlot => 4

def Operation.code : Operation → Byte
  | .none => 0
  | .committing _ _ _ _ _ => 1
  | .loading _ _ => 2
  | .erasing _ _ _ _ => 3
  | .bootWrite _ _ _ _ _ => 4

def StoreResult.code : StoreResult → Byte
  | .ok => 0
  | .storeFault => 1
  | .corrupt => 2
  | .aborted => 3

/-- A profile slot field (10.3). -/
def profileField : Option ProfileNo → Byte
  | none => 0xFF
  | some p => oneByte p.val

def Copy.code {α : Type} : Copy α → Byte
  | .erased => 0
  | .invalid => 1
  | .valid _ _ => 2

def CopyNo.code : CopyNo → Byte
  | .copy0 => 0
  | .copy1 => 1

def Staging.code : Staging → Byte
  | .idle => 0
  | .staging _ _ => 1
  | .committing _ _ => 2

def BootResult.code : BootResult → Byte
  | .inProgress => 0
  | .loaded => 1
  | .none => 2
  | .empty => 3
  | .corrupt => 4

def ResetCause.code : ResetCause → Byte
  | .power => 0
  | .line => 1
  | .request => 2
  | .clock => 3

end Sys2Proof.Machine
end

