-- ==== Sys2Proof/Machine/Flags.lean ====
section
/-! DEFINITION. The levels, states, counts and flags that the spec derives from the state: effective
and sensed levels (R5, R20), slot and copy states (R111, R150, R151), schedule order (R71), the free
room of the link (R178), ATTN_N (R185), and whether the part is held in reset (R189). -/

namespace Sys2Proof.Machine

/-! ### Lines -/

/-- Lines in DRIVE or SINK mode are output lines (R1). -/
def Mode.isOutput : Mode → Bool
  | .park | .input => false
  | .drive | .sink => true

/-- Lines in INPUT or SINK mode are sensed lines (R1). -/
def Mode.isSensed : Mode → Bool
  | .park | .drive => false
  | .input | .sink => true

/-- The claim of a class. -/
def ClaimSet.get (c : ClaimSet) : ClaimClass → Option Claim
  | .failsafe => c.failsafe
  | .pin => c.pin
  | .trigger => c.trigger
  | .schedule => c.schedule
  | .base => c.base

/-- The claim set with this claim, or none, in a class; the old claim of the class goes entirely (R6). -/
def ClaimSet.set (c : ClaimSet) (cls : ClaimClass) (claim : Option Claim) : ClaimSet :=
  match cls with
  | .failsafe => { c with failsafe := claim }
  | .pin => { c with pin := claim }
  | .trigger => { c with trigger := claim }
  | .schedule => { c with schedule := claim }
  | .base => { c with base := claim }

/-- The claims present, with their classes, in rank order, highest first (R5). -/
def ClaimSet.ranked (c : ClaimSet) : List (ClaimClass × Claim) :=
  [ClaimClass.failsafe, .pin, .trigger, .schedule, .base].filterMap
    fun cls => (c.get cls).map fun claim => (cls, claim)

/-- The highest-ranked claim present, with its class (R5). -/
def ClaimSet.winner (c : ClaimSet) : Option (ClaimClass × Claim) := c.ranked.head?

/-- Whether the line is in an output mode. -/
def Line.isOutput (l : Line) : Bool := l.config.mode.isOutput

/-- Whether the line is in a sensed mode. -/
def Line.isSensed (l : Line) : Bool := l.config.mode.isSensed

/-- The effective level of an output line: the level of its highest-ranked claim present. A PARK or
INPUT line has none (R5). -/
def Line.effective (l : Line) : Option Level :=
  if l.isOutput then l.claims.winner.map (·.2.level) else none

/-- The effective level as replies report it: LOW for a PARK or INPUT line (R21, R22). -/
def Line.reportedEffective (l : Line) : Level := l.effective.getD .low

/-- The winning class of an output line, absent for a PARK or INPUT line (R5, R22). -/
def Line.winningClass (l : Line) : Option ClaimClass :=
  if l.isOutput then l.claims.winner.map (·.1) else none

/-- The sensed level of a line as the part reports it (R20). -/
def Line.sensedLevel (l : Line) : Level :=
  match l.config.mode with
  | .input | .sink => (l.filter.map (·.filtered)).getD .low
  | .drive => l.reportedEffective
  | .park => .low

/-- The part's own drive of a sensed line's pin: a SINK line drives its effective level, an INPUT line
is not driven (R1). -/
def Line.ownDrive (l : Line) : Option Level :=
  match l.config.mode with
  | .sink => l.effective
  | .park | .input | .drive => none

/-- The level of a pin: what the circuit outside and the part's own drive make of it together; a
pull-up raises a pin that nothing holds low (R1, R40). -/
def pinLevel (circuit : Outside) (drive : Option Level) : Level :=
  match circuit with
  | .holdsLow => .low
  | .holdsHigh => .high
  | .pullUp => drive.getD .high

/-- Whether a settle has reached its completion time (R36). -/
def Settle.complete (p : Settle) (now : Nat) : Bool := decide (p.onset + p.duration ≤ now)

/-- The bank of a line, 0 for A to 4 for E (1.1). -/
def bankOf (i : LineNo) : Nat := i.val / 8

/-! ### Journal -/

/-- The sequence number of a record (R44). -/
def JournalRecord.seq : JournalRecord → Serial
  | .edge seq _ _ _ _ => seq
  | .gap seq _ _ _ _ => seq

/-- Whether a record is an open GAP (R46). -/
def JournalRecord.isOpenGap : JournalRecord → Bool
  | .edge _ _ _ _ _ => false
  | .gap _ _ _ _ isOpen => isOpen

/-- The held count (R43). -/
def Journal.held (j : Journal) : Nat := j.records.length

/-- The oldest sequence number; the next sequence number while the journal is empty (R43). -/
def Journal.oldest (j : Journal) : Serial :=
  match j.records with
  | [] => j.nextSeq
  | r :: _ => r.seq

/-- Whether the newest record is an open GAP. -/
def Journal.openGapNewest (j : Journal) : Bool :=
  match j.records.getLast? with
  | some r => r.isOpenGap
  | none => false

/-! ### Schedule -/

/-- The due time of an entry, absent in WAITING_PRED (R61). -/
def EntryState.due : EntryState → Option Nat
  | .timed due => some due
  | .guardWait due _ => some due
  | .waitingPred => none

/-- The guard deadline of an entry, present in GUARD_WAIT (R61). -/
def EntryState.deadline : EntryState → Option Nat
  | .timed _ => none
  | .guardWait _ deadline => some deadline
  | .waitingPred => none

/-- Whether an entry may stand before another in schedule order: the earlier due time first, and every
entry with a due time before every entry without (R71). -/
def Entry.beforeOrLevel (a b : Entry) : Bool :=
  match a.state.due, b.state.due with
  | some x, some y => decide (x ≤ y)
  | some _, none => true
  | none, some _ => false
  | none, none => true

/-- An entry put in its place before every entry that does not come earlier. -/
def insertInOrder (e : Entry) : List Entry → List Entry
  | [] => [e]
  | x :: xs => if e.beforeOrLevel x then e :: x :: xs else x :: insertInOrder e xs

/-- Entries in schedule order, from entries in admission order (R71). The sort is stable, so entries of
equal due time, and the WAITING_PRED entries, stay in admission order. -/
def scheduleOrder (entries : List Entry) : List Entry := entries.foldr insertInOrder []

/-- The queued entry of an action id (R60). -/
def Schedule.find (c : Schedule) (id : Nat) : Option Entry :=
  c.entries.find? fun e => decide (e.action.id = id)

/-- The lines an action names, in any role (R10). -/
def Action.names (a : Action) (i : LineNo) : Bool :=
  a.targets.any (fun t => decide (t.line = i)) ||
    (match a.guard with | some g => decide (g.line = i) | none => false)

/-- Iterations done: the applied count plus the skipped count (R87, R98). -/
def Entry.done (e : Entry) : Nat := e.applied + e.skipped

/-- Iterations remaining (R87): 1 for a non-repeating entry, 0 for an indefinite repeat. -/
def Entry.remaining (e : Entry) : Nat :=
  match e.action.rep with
  | none => 1
  | some r => if r.count = 0 then 0 else r.count - e.done

/-- Whether an iteration was the entry's last: always for a non-repeating entry, when the iterations
done reach the count for a repeating one, and never for count 0 (R98, R100). -/
def Entry.atLast (e : Entry) : Bool :=
  match e.action.rep with
  | none => true
  | some r => decide (r.count ≠ 0) && decide (r.count ≤ e.done)

/-! ### Triggers -/

/-- The lines a trigger definition names, in any role (R10). -/
def TriggerDef.names (d : TriggerDef) (i : LineNo) : Bool :=
  decide (d.watched = i) || d.targets.any (fun t => decide (t.line = i)) ||
    (match d.qualifier with | some q => decide (q.line = i) | none => false)

/-- The state of a slot as replies report it (R111, 10.3). -/
def Slot.code (s : Slot) : Byte :=
  match s.definition, s.phase with
  | none, _ => 0
  | some _, .idle => 1
  | some _, .armed => 2
  | some _, .pending _ => 3
  | some _, .holdoff _ => 4

/-- A slot in ARMED, PENDING or HOLDOFF is running (R111). -/
def Slot.running (s : Slot) : Bool :=
  match s.definition, s.phase with
  | none, _ => false
  | some _, .idle => false
  | some _, _ => true

/-- The timer of READ TRIGGER: the fire time or the holdoff end, and 0 otherwise (10.5). -/
def Slot.timer (s : Slot) : Nat :=
  match s.phase with
  | .pending t => t
  | .holdoff t => t
  | .idle | .armed => 0

/-! ### Profile Store -/

/-- The other copy of a pair. -/
def CopyNo.other : CopyNo → CopyNo
  | .copy0 => .copy1
  | .copy1 => .copy0

/-- A copy of a pair. -/
def CopyPair.get {α : Type} (p : CopyPair α) : CopyNo → Copy α
  | .copy0 => p.copy0
  | .copy1 => p.copy1

/-- The pair with this in one of its copies. -/
def CopyPair.set {α : Type} (p : CopyPair α) (n : CopyNo) (c : Copy α) : CopyPair α :=
  match n with
  | .copy0 => { p with copy0 := c }
  | .copy1 => { p with copy1 := c }

/-- Of two VALID copies, whether copy 1 is the loadable one: its generation is the other's plus 1
modulo 2^32, or else, when copy 0's is not copy 1's plus 1, it is the numerically higher (R151). Two
equal generations, of which R151 says nothing, are decided by a free value (assumption 5). -/
def newerIsCopy1 (g0 g1 : Serial) : Bool :=
  if g1 = g0 + 1 then true
  else if g0 = g1 + 1 then false
  else if g0 = g1 then Config.equalGenerationTakesCopy1
  else decide (g0.toNat < g1.toNat)

/-- The loadable copy of a slot, with its generation and content (R151). The selector's current copy is
chosen in the same way (R152). -/
def CopyPair.loadable {α : Type} (p : CopyPair α) : Option (CopyNo × Serial × α) :=
  match p.copy0, p.copy1 with
  | .valid g0 a0, .valid g1 a1 =>
    if newerIsCopy1 g0 g1 then some (.copy1, g1, a1) else some (.copy0, g0, a0)
  | .valid g0 a0, _ => some (.copy0, g0, a0)
  | _, .valid g1 a1 => some (.copy1, g1, a1)
  | _, _ => none

/-- The copy that a write or an erase takes first: the one that is not loadable, and copy 0 when none
is (R161, R166, R167). -/
def CopyPair.target {α : Type} (p : CopyPair α) : CopyNo :=
  match p.loadable with
  | some (n, _, _) => n.other
  | none => .copy0

/-- The generation a write gives: the loadable one plus 1 modulo 2^32, or 1 (R161, R167). -/
def CopyPair.nextGeneration {α : Type} (p : CopyPair α) : Serial :=
  match p.loadable with
  | some (_, g, _) => g + 1
  | none => 1

/-- Whether a copy is ERASED. -/
def Copy.isErased {α : Type} : Copy α → Bool
  | .erased => true
  | .invalid => false
  | .valid _ _ => false

/-- The state of a profile slot, as coded in 10.3: 0 EMPTY, 1 VALID, 2 CORRUPT (R150). -/
def CopyPair.stateCode {α : Type} (p : CopyPair α) : Byte :=
  match p.loadable with
  | some _ => 1
  | none => if p.copy0.isErased && p.copy1.isErased then 0 else 2

/-- The boot selector's value: that of its current copy, and NONE when no copy is VALID (R152). -/
def Media.bootValue (m : Media) : Option ProfileNo :=
  match m.selector.loadable with
  | some (_, _, v) => v
  | none => none

/-- Whether an operation is in flight (R155). -/
def Operation.inFlight : Operation → Bool
  | .none => false
  | _ => true

/-- Whether the operation state is LOADING (R155). -/
def Operation.isLoading : Operation → Bool
  | .loading _ _ => true
  | _ => false

/-- The slot of the operation in flight, none for NONE (R148). A BOOT_WRITE's slot is the value it
writes (DEDUCED from R155 and R169, assumption 16). -/
def Operation.slot : Operation → Option ProfileNo
  | .none => .none
  | .committing s _ _ _ _ => some s
  | .loading s _ => some s
  | .erasing s _ _ _ => some s
  | .bootWrite v _ _ _ _ => v

/-- The records of the staging list; an IDLE list is empty (R154). -/
def Staging.records : Staging → List ProfileRecord
  | .idle => []
  | .staging _ rs => rs
  | .committing _ rs => rs

/-- The slot of the staging list, none in IDLE. -/
def Staging.slot : Staging → Option ProfileNo
  | .idle => none
  | .staging s _ => some s
  | .committing s _ => some s

/-! ### Link Port -/

/-- The number of bytes the receive buffer holds: the partial frame and the waiting frames (R178). -/
def Link.bufferBytes (l : Link) : Nat :=
  (match l.framer with
   | .hunting => 0
   | .receiving bs _ => bs.length) + (l.waiting.map Frame.size).sum

/-- Whether a request is being answered: its reply is ready or is being sent (R179). -/
def Link.answering (l : Link) : Bool :=
  l.reply.isSome || (match l.tx with
    | .reply _ _ => true
    | .idle => false
    | .notice _ _ => false)

/-- The reply that the cache has for a frame: the SEQ is not 0, and SEQ and KIND are the cache's
(R180). -/
def Link.cached (l : Link) (f : Frame) : Option Frame :=
  match l.cache with
  | some c => if f.seq ≠ 0 ∧ f.seq = c.seq ∧ f.kind = c.kind then some c.reply else none
  | none => none

/-- The baud rate of a link rate (R172). -/
def Rate.baud : Rate → Nat
  | .baud115200 => 115200
  | .baud460800 => 460800
  | .baud1000000 => 1000000
  | .baud3000000 => 3000000

/-- The whole microseconds of `n` character times: a character is 10 bit times (R172). -/
def Rate.charactersTime (r : Rate) (n : Nat) : Nat := n * 10000000 / r.baud

/-- The microseconds that one character may lie across: its time, rounded up (R172). -/
def Rate.characterSpan (r : Rate) : Nat := (10000000 + r.baud - 1) / r.baud

/-- Whether the UART receives: no line break is present (R187), and after a character fault or a line break
RXD has had the time to be high for one bit time and to carry a character after it (R176, R187; assumption
23). -/
def Link.hears (l : Link) (now : Nat) : Bool := l.breakSince.isNone && decide (l.deafUntil ≤ now)

/-- The device time before which RXD cannot have been low without interruption (R187; assumption 21). -/
def Rxd.lowFrom : Rxd → Nat
  | .high time => time
  | .low since => since

/-- Whether RXD can have been low without interruption for the 2,000 µs of a line break (R187; assumption
21). -/
def Rxd.lowForBreak (r : Rxd) (now : Nat) : Bool :=
  match r with
  | .high _ => false
  | .low since => decide (since + 2000 ≤ now)

/-- Whether a frame begun at a device time can have been transmitted whole: it occupies TXD for one
character time a byte (R172). An end between two values of the clock may be taken at either (assumption
10). -/
def Link.sentBy (l : Link) (f : Frame) (since now : Nat) : Bool :=
  decide (since + l.rate.charactersTime f.size ≤ now)

/-- The level of TXD at the present device time: high while no frame is being transmitted, else that of
the bit which the frame begun at `since` has come to (R172; assumption 10). -/
def Link.txd (l : Link) (now : Nat) : Level :=
  match l.tx with
  | .idle => .high
  | .reply f since | .notice f since => f.levels.getD ((now - since) * l.rate.baud / 1000000) .high

/-! ### The part -/

/-- While RST_N stays low, and while the supply is below its range, every block is held at its reset
values (R189). -/
def State.held (s : State) : Bool := !s.pins.supplyInRange || s.pins.rstN == .low

/-- Whether the start-up load has not completed (R171, R188). -/
def State.starting (s : State) : Bool := s.store.bootResult == .inProgress

/-- Whether ATTN_N is driven low: the notice queue holds a notice (R185). -/
def State.attnAsserted (s : State) : Bool := !s.link.notices.isEmpty

/-- The remaining lease time in µs; 0 when no deadline is kept (R135). -/
def State.remainingLease (s : State) : Nat :=
  match s.session.deadline with
  | some d => d - s.now
  | none => 0

end Sys2Proof.Machine
end

