-- ==== Sys2Proof/Machine/Operands.lean ====
section
/-! DEFINITION. The operands of the requests: the body length that each layout fixes (R193), and the
content of each body, or none where the owning block's first BAD_VALUE check fails, which is the check
of ranges, codes, absent parts, reserved fields and unused places (R63, R110, R153, R192, R194). -/

namespace Sys2Proof.Machine

/-! ### Body lengths (R193) -/

/-- The length of a layout with a count field: the fixed part plus count times the item size. -/
def countedLength (body : List Byte) (fixed countAt item : Nat) : Bool :=
  decide (countAt < body.length) && decide (body.length = fixed + item * byteAt body countAt)

/-- Whether the body-length byte of an APPEND RECORD fits the record's kind (R193). -/
def recordLengthFits (body : List Byte) : Bool :=
  let len := byteAt body 1
  decide (2 ≤ body.length) && decide (body.length = 2 + len) &&
    (match byteAt body 0 with
     | 1 => decide (4 ≤ body.length) && decide (len = 2 + 5 * byteAt body 3)
     | 2 => decide (len = 8)
     | 3 => decide (len = 2)
     | 4 => decide (len = 30)
     | 5 => decide (1 ≤ len) && decide (len ≤ 32)
     | _ => true)

/-- Whether the body length matches the layout of a request kind (R193, 10.5). -/
def lengthFits (kind : Byte) (body : List Byte) : Bool :=
  match kind.toNat with
  | 0x01 | 0x02 | 0x03 | 0x0B | 0x15 | 0x22 | 0x52 | 0x53 | 0x54 => decide (body.length = 0)
  | 0x0A | 0x16 | 0x35 | 0x41 | 0x43 | 0x50 | 0x55 | 0x56 | 0x57 => decide (body.length = 1)
  | 0x08 | 0x0C | 0x23 | 0x32 | 0x33 | 0x34 | 0x42 | 0x44 | 0x58 => decide (body.length = 2)
  | 0x09 | 0x31 => decide (body.length = 3)
  | 0x21 => decide (body.length = 4)
  | 0x20 => decide (body.length = 6)
  | 0x18 => decide (body.length = 8)
  | 0x40 => decide (body.length = 29)
  | 0x10 | 0x13 => countedLength body 1 0 6
  | 0x11 | 0x12 => countedLength body 1 0 2
  | 0x14 => countedLength body 2 1 1
  | 0x30 => countedLength body 32 31 2
  | 0x51 => recordLengthFits body
  | _ => false

/-! ### Parts that several bodies share -/

/-- Whether no line stands twice in a list. -/
def distinctLines : List LineNo → Bool
  | [] => true
  | i :: is => !is.contains i && distinctLines is

/-- A lease: 0, or 10..60,000 ms (R134). -/
def leaseInRange (ms : Nat) : Bool := decide (ms = 0) || (decide (10 ≤ ms) && decide (ms ≤ 60000))

/-- An optional number that is not 0 when present, and whose bytes are 0 when absent (R194). -/
def optPositive (isPresent : Bool) (body : List Byte) (offset width : Nat) : Option (Option Nat) :=
  if isPresent then
    if field body offset width = 0 then none else some (some (field body offset width))
  else if zeroAt body offset width then some none else none

/-- A line configuration in 5 bytes: mode, base level, filter class, journal sense, failsafe spec. -/
def parseConfig (b : List Byte) : Option LineConfig := do
  let mode ← modeOf? (byteAt b 0)
  let base ← levelOf? (byteAt b 1)
  let cls ← classOf? (byteAt b 2)
  let sense ← senseOf? (byteAt b 3)
  let spec ← failsafeSpecOf? (byteAt b 4)
  some ⟨mode, base, cls, sense, spec⟩

/-- A target in 2 bytes: line, target value. -/
def parseTarget (b : List Byte) : Option Target := do
  let line ← lineOf? (byteAt b 0)
  let value ← targetValueOf? (byteAt b 1)
  some ⟨line, value⟩

/-- A list of targets, each line at most once. -/
def parseTargets (count : Nat) (b : List Byte) : Option (List Target) := do
  let ts ← allSome parseTarget (chunks 2 count b)
  if distinctLines (ts.map (·.line)) then some ts else none

/-! ### Session requests -/

/-- OPEN and RECOVER: the lease (R134, R146). -/
def parseLease (body : List Byte) : Option Nat :=
  if leaseInRange (field body 0 2) then some (field body 0 2) else none

/-- RENEW: the optional new lease (R137). -/
def parseRenew (body : List Byte) : Option (Option Nat) :=
  match flagOf? (byteAt body 0) with
  | some true => if leaseInRange (field body 1 2) then some (some (field body 1 2)) else none
  | some false => if zeroAt body 1 2 then some none else none
  | none => none

/-! ### Line requests -/

/-- A line setting of CONFIGURE LINES (R12). -/
structure LineSetting where
  line : LineNo
  config : LineConfig
deriving DecidableEq, Repr

def parseSetting (b : List Byte) : Option LineSetting := do
  let line ← lineOf? (byteAt b 0)
  let config ← parseConfig (b.drop 1)
  some ⟨line, config⟩

/-- A list of 1..8 items after a count byte, each naming its line, no line twice (R12, R15 to R17). -/
def parseLineList {α : Type} (item : Nat) (parse : List Byte → Option α) (lineOf : α → LineNo)
    (body : List Byte) : Option (List α) :=
  let count := byteAt body 0
  if 1 ≤ count ∧ count ≤ 8 then
    match allSome parse (chunks item count (body.drop 1)) with
    | some xs => if distinctLines (xs.map lineOf) then some xs else none
    | none => none
  else none

/-- CONFIGURE LINES (R12). -/
def parseConfigureLines (body : List Byte) : Option (List LineSetting) :=
  parseLineList 6 parseSetting (·.line) body

/-- A pair of SET BASE. -/
structure BaseSetting where
  line : LineNo
  level : Level
deriving DecidableEq, Repr

def parseBaseSetting (b : List Byte) : Option BaseSetting := do
  let line ← lineOf? (byteAt b 0)
  let level ← levelOf? (byteAt b 1)
  some ⟨line, level⟩

/-- SET BASE (R15). -/
def parseSetBase (body : List Byte) : Option (List BaseSetting) :=
  parseLineList 2 parseBaseSetting (·.line) body

/-- A pair of SET FAILSAFE. -/
structure SpecSetting where
  line : LineNo
  spec : FailsafeSpec
deriving DecidableEq, Repr

def parseSpecSetting (b : List Byte) : Option SpecSetting := do
  let line ← lineOf? (byteAt b 0)
  let spec ← failsafeSpecOf? (byteAt b 1)
  some ⟨line, spec⟩

/-- SET FAILSAFE (R16). -/
def parseSetFailsafe (body : List Byte) : Option (List SpecSetting) :=
  parseLineList 2 parseSpecSetting (·.line) body

/-- An item of PIN LINES. -/
structure PinItem where
  line : LineNo
  level : Level
  duration : Option Nat
deriving DecidableEq, Repr

def parsePinItem (b : List Byte) : Option PinItem := do
  let line ← lineOf? (byteAt b 0)
  let level ← levelOf? (byteAt b 1)
  let isPresent ← flagOf? (byteAt b 2)
  let duration ← optPositive isPresent b 3 3
  some ⟨line, level, duration⟩

/-- PIN LINES (R17). -/
def parsePinLines (body : List Byte) : Option (List PinItem) :=
  parseLineList 6 parsePinItem (·.line) body

/-- What UNPIN LINES names: a list, or every line (R19). -/
inductive UnpinForm where
  | list (lines : List LineNo)
  | all
deriving DecidableEq, Repr

/-- UNPIN LINES (R19). -/
def parseUnpinLines (body : List Byte) : Option UnpinForm :=
  match byteAt body 0 with
  | 0 =>
    match parseLineList 1 (fun b => lineOf? (byteAt b 0)) id (body.drop 1) with
    | some lines => some (.list lines)
    | none => none
  | 1 => if byteAt body 1 = 0 then some .all else none
  | _ => none

/-- READ LINE (R22). -/
def parseReadLine (body : List Byte) : Option LineNo := lineOf? (byteAt body 0)

/-- Four settle times (R32, R153). -/
def parseSettleTimes (b : List Byte) : Vector Nat 4 :=
  #v[field b 0 2, field b 2 2, field b 4 2, field b 6 2]

/-! ### Journal requests -/

/-- READ JOURNAL: the maximum count and the optional start (R52). -/
def parseReadJournal (body : List Byte) : Option (Nat × Option Serial) :=
  let count := byteAt body 0
  if 1 ≤ count ∧ count ≤ 16 then
    match flagOf? (byteAt body 1) with
    | some true => some (count, some (BitVec.ofNat 32 (field body 2 4)))
    | some false => if zeroAt body 2 4 then some (count, none) else none
    | none => none
  else none

/-- SET JOURNAL: the ready threshold (R57). -/
def parseThreshold (b : List Byte) : Option Nat :=
  let t := field b 0 2
  if 1 ≤ t ∧ t ≤ 256 then some t else none

/-! ### Schedule requests -/

/-- The due field of a SUBMIT ACTION (4.1). -/
inductive DueField where
  | absolute (time : Nat)
  | relative (duration : Nat)
deriving DecidableEq, Repr

/-- A SUBMIT ACTION that passed check 1 of R62: the action record, and its due field unless chained. -/
structure Submission where
  action : Action
  due : Option DueField
deriving DecidableEq, Repr

/-- The due field: with the relative flag a duration in its first 4 bytes, the other 2 reserved; the
relative flag alone is a reserved bit set (10.5). -/
def parseDue (flags : Nat) (body : List Byte) : Option (Option DueField) :=
  if flags.testBit 2 then
    if flags.testBit 1 then
      if zeroAt body 8 2 then some (some (.relative (field body 4 4))) else none
    else some (some (.absolute (field body 4 6)))
  else if !flags.testBit 1 && zeroAt body 4 6 then some none else none

/-- The mode of a guard: SKIP with wait limit 0, or WAIT with a wait limit of 1 or more (R63). -/
def parseGuardMode (mode limit : Nat) : Option GuardMode :=
  match mode with
  | 0 => if limit = 0 then some .skip else none
  | 1 => if limit = 0 then none else some (.wait limit)
  | _ => none

/-- The guard part (R63). -/
def parseGuard (flags : Nat) (body : List Byte) : Option (Option Guard) :=
  if flags.testBit 4 then do
    let line ← lineOf? (byteAt body 13)
    let wanted ← levelOf? (byteAt body 14)
    let mode ← parseGuardMode (byteAt body 15) (field body 16 3)
    some (some ⟨line, wanted, mode⟩)
  else if zeroAt body 13 6 then some none else none

/-- The repeat part: a period of at least 50 µs, a count other than 1 (R63). -/
def parseRepeat (flags : Nat) (body : List Byte) : Option (Option Repeat) :=
  if flags.testBit 5 then
    if 50 ≤ field body 19 4 ∧ field body 23 2 ≠ 1 then
      some (some ⟨field body 19 4, field body 23 2⟩)
    else none
  else if zeroAt body 19 6 then some none else none

/-- The chain part: a predecessor id other than 0 (R63). -/
def parseChain (flags : Nat) (body : List Byte) : Option (Option Chain) :=
  if flags.testBit 6 then
    if field body 25 2 ≠ 0 then some (some ⟨field body 25 2, field body 27 4⟩) else none
  else if zeroAt body 25 6 then some none else none

/-- SUBMIT ACTION, check 1 of R62 (R63, R194). Exactly one of a due field and a chain is present. -/
def parseSubmit (body : List Byte) : Option Submission := do
  let flags := byteAt body 2
  let id := field body 0 2
  let group := byteAt body 3
  let count := byteAt body 31
  let due ← parseDue flags body
  let hold ← optPositive (flags.testBit 3) body 10 3
  let guard ← parseGuard flags body
  let rep ← parseRepeat flags body
  let chain ← parseChain flags body
  let targets ← parseTargets count (body.drop 32)
  if id ≠ 0 ∧ group ≤ 15 ∧ ¬ flags.testBit 7 ∧ 1 ≤ count ∧ count ≤ 8
      ∧ due.isSome = chain.isNone then
    some ⟨⟨id, flags.testBit 0, group, targets, hold, guard, rep, chain⟩, due⟩
  else none

/-- CANCEL ACTION: the id and the release flag (R80). -/
def parseCancelAction (body : List Byte) : Option (Nat × Bool) :=
  match flagOf? (byteAt body 2) with
  | some release => if field body 0 2 = 0 then none else some (field body 0 2, release)
  | none => none

/-- CANCEL GROUP: the group and the release flag (R82). -/
def parseCancelGroup (body : List Byte) : Option (Nat × Bool) :=
  match flagOf? (byteAt body 1) with
  | some release =>
    if byteAt body 0 = 0 ∨ 15 < byteAt body 0 then none else some (byteAt body 0, release)
  | none => none

/-- QUERY ACTION: the id (R87). -/
def parseQueryAction (body : List Byte) : Option Nat :=
  if field body 0 2 = 0 then none else some (field body 0 2)

/-- LIST SCHEDULE: the start index and the maximum count (R88). -/
def parseListSchedule (body : List Byte) : Option (Nat × Nat) :=
  let start := byteAt body 0
  let count := byteAt body 1
  if start ≤ 47 ∧ 1 ≤ count ∧ count ≤ 10 then some (start, count) else none

/-- READ OUTCOMES: the clear flag (R89). -/
def parseReadOutcomes (body : List Byte) : Option Bool := flagOf? (byteAt body 0)

/-! ### Trigger requests -/

/-- The qualifier of a definition, absent with its bytes 0 (R110, R194). -/
def parseQualifier (b : List Byte) : Option (Option Qualifier) :=
  match flagOf? (byteAt b 3) with
  | some true => do
    let line ← lineOf? (byteAt b 4)
    let level ← levelOf? (byteAt b 5)
    some (some ⟨line, level⟩)
  | some false => if zeroAt b 4 2 then some none else none
  | none => none

/-- The mode of a definition; an ONESHOT carries holdoff 0 (R110). -/
def parseTriggerMode (mode holdoff : Nat) : Option TriggerMode :=
  match mode with
  | 0 => if holdoff = 0 then some .oneshot else none
  | 1 => some (.rearm holdoff)
  | _ => none

/-- The four target places: those beyond the count hold 0 (R194). -/
def parseTargetPlaces (b : List Byte) : Option (List Target) :=
  let count := byteAt b 20
  if count ≤ 4 ∧ zeroAt b (21 + 2 * count) (8 - 2 * count) then
    parseTargets count (slice b 21 8)
  else none

/-- A trigger definition in 29 bytes, with its slot, checked by R110. A definition with no target, no
cancel group and no notice would do nothing and is refused. -/
def parseTriggerDef (b : List Byte) : Option (SlotNo × TriggerDef) := do
  let slot ← slotOf? (byteAt b 0)
  let watched ← lineOf? (byteAt b 1)
  let edge ← edgeChoiceOf? (byteAt b 2)
  let qualifier ← parseQualifier b
  let policy ← policyOf? (byteAt b 9)
  let mode ← parseTriggerMode (byteAt b 10) (field b 11 3)
  let holdPresent ← flagOf? (byteAt b 14)
  let hold ← optPositive holdPresent b 15 3
  let notify ← flagOf? (byteAt b 19)
  let targets ← parseTargetPlaces b
  let group := byteAt b 18
  if group ≤ 15 ∧ ¬ (targets = [] ∧ group = 0 ∧ notify = false) then
    some (slot, ⟨watched, edge, qualifier, field b 6 3, policy, mode, targets, hold, group, notify⟩)
  else none

/-- ARM TRIGGER and DELETE TRIGGER: the slot (R122). -/
def parseSlot (body : List Byte) : Option SlotNo := slotOf? (byteAt body 0)

/-- DISARM TRIGGER and READ TRIGGER: the slot and the release or clear flag (R124, R126). -/
def parseSlotFlag (body : List Byte) : Option (SlotNo × Bool) :=
  match slotOf? (byteAt body 0), flagOf? (byteAt body 1) with
  | some slot, some flag => some (slot, flag)
  | _, _ => none

/-! ### Profile requests -/

/-- BEGIN, LOAD and ERASE PROFILE: the profile slot (R156, R163, R166). -/
def parseProfileSlot (body : List Byte) : Option ProfileNo := profileOf? (byteAt body 0)

/-- SET BOOT SLOT: a slot or NONE (R167). -/
def parseBootSlot (body : List Byte) : Option (Option ProfileNo) := profileFieldOf? (byteAt body 0)

/-- A character a label may hold (R153). -/
def printable (b : Byte) : Bool := decide (0x20 ≤ b.toNat) && decide (b.toNat ≤ 0x7E)

/-- A LINES record (R153). -/
def parseLinesRecord (b : List Byte) : Option ProfileRecord := do
  let first ← lineOf? (byteAt b 0)
  let count := byteAt b 1
  let configs ← allSome parseConfig (chunks 5 count (b.drop 2))
  if 1 ≤ count ∧ count ≤ 8 ∧ first.val + count ≤ 40 then some (.lines first configs) else none

/-- A TRIGGER record (R153). -/
def parseTriggerRecord (b : List Byte) : Option ProfileRecord := do
  let (slot, d) ← parseTriggerDef (b.take 29)
  let arm ← flagOf? (byteAt b 29)
  some (.trigger slot d arm)

/-- A profile record, from its kind and its body, checked alone (R153, R157, 10.8). -/
def parseRecordBody (kind : Nat) (b : List Byte) : Option ProfileRecord :=
  match kind with
  | 1 => parseLinesRecord b
  | 2 => some (.filters (parseSettleTimes b))
  | 3 => (parseThreshold b).map .journal
  | 4 => parseTriggerRecord b
  | 5 => if 1 ≤ b.length ∧ b.length ≤ 32 ∧ b.all printable then some (.label b) else none
  | _ => none

/-- APPEND RECORD: one profile record (R157). -/
def parseAppendRecord (body : List Byte) : Option ProfileRecord :=
  parseRecordBody (byteAt body 0) (body.drop 2)

/-- The source of a READ PROFILE (R170). -/
inductive ProfileSource where
  | slot (slot : ProfileNo)
  | staging
deriving DecidableEq, Repr

/-- READ PROFILE: the source and the start index (R170). -/
def parseReadProfile (body : List Byte) : Option (ProfileSource × Nat) :=
  let start := byteAt body 1
  if start ≤ 31 then
    if byteAt body 0 = 0x10 then some (.staging, start)
    else match profileOf? (byteAt body 0) with
      | some p => some (.slot p, start)
      | none => none
  else none

end Sys2Proof.Machine
end

