-- ==== Sys2Proof/Machine/Replies.lean ====
section
/-! DEFINITION. What the part sends: the records (R197, 10.8), the notices (R196) and the content of
the replies after their status code (R195, 10.5), byte for byte. -/

namespace Sys2Proof.Machine

/-! ### Records -/

/-- A line configuration in 5 bytes (10.8). -/
def LineConfig.bytes (c : LineConfig) : List Byte :=
  [c.mode.code, c.base.code, oneByte c.cls.val, c.sense.code, c.failsafe.code]

/-- A target in 2 bytes (10.5). -/
def Target.bytes (t : Target) : List Byte := [oneByte t.line.val, t.value.code]

/-- The four target places of a definition; unused places are 0 (R194). -/
def targetPlaces (ts : List Target) : List Byte :=
  (ts.flatMap Target.bytes ++ leBytes 8 0).take 8

/-- The qualifier fields of a definition (10.5). -/
def qualifierBytes : Option Qualifier → List Byte
  | none => [0, 0, 0]
  | some q => [1, oneByte q.line.val, q.level.code]

/-- The mode and holdoff fields of a definition (10.5). -/
def TriggerMode.bytes : TriggerMode → List Byte
  | .oneshot => 0 :: leBytes 3 0
  | .rearm h => 1 :: leBytes 3 h

/-- An optional 3-byte duration with its presence flag (R194). -/
def optHoldBytes : Option Nat → List Byte
  | none => 0 :: leBytes 3 0
  | some h => 1 :: leBytes 3 h

/-- A trigger definition in 29 bytes (10.5). -/
def TriggerDef.bytes (slot : SlotNo) (d : TriggerDef) : List Byte :=
  [oneByte slot.val, oneByte d.watched.val, d.edge.code] ++ qualifierBytes d.qualifier
    ++ leBytes 3 d.delay ++ d.policy.code :: d.mode.bytes ++ optHoldBytes d.hold
    ++ [oneByte d.cancelGroup, flagByte d.notify, oneByte d.targets.length] ++ targetPlaces d.targets

/-- Four settle times in 8 bytes (10.5). -/
def settleTimesBytes (v : Vector Nat 4) : List Byte := v.toList.flatMap (leBytes 2)

/-- The kind code of a profile record (10.8). -/
def ProfileRecord.kind : ProfileRecord → Byte
  | .lines _ _ => 1
  | .filters _ => 2
  | .journal _ => 3
  | .trigger _ _ _ => 4
  | .label _ => 5

/-- The body of a profile record (10.8). -/
def ProfileRecord.body : ProfileRecord → List Byte
  | .lines first configs =>
    oneByte first.val :: oneByte configs.length :: configs.flatMap LineConfig.bytes
  | .filters times => settleTimesBytes times
  | .journal threshold => leBytes 2 threshold
  | .trigger slot d arm => d.bytes slot ++ [flagByte arm]
  | .label characters => characters

/-- A profile record: a kind byte, a body-length byte and the body (10.8). -/
def ProfileRecord.bytes (r : ProfileRecord) : List Byte :=
  r.kind :: oneByte r.body.length :: r.body

/-- A journal record (R197). -/
def JournalRecord.bytes : JournalRecord → List Byte
  | .edge seq line direction onset bank =>
    leBytes 4 seq.toNat ++ [0, oneByte line.val, direction.code] ++ timeBytes onset ++ [bank]
  | .gap seq lost first last isOpen =>
    leBytes 4 seq.toNat ++ [1, flagByte isOpen] ++ leBytes 4 lost ++ timeBytes first ++ timeBytes last

/-- An outcome record (R197). -/
def OutcomeRecord.bytes (r : OutcomeRecord) : List Byte :=
  leBytes 2 r.id ++ [r.outcome.code] ++ timeBytes r.completion ++ leBytes 2 r.applied
    ++ leBytes 2 r.skipped ++ r.outcome.detail

/-- The records of a run that fit whole in the room left of a reply body, in order, up to the first
that does not fit (R52, R170, R197). -/
def fitting (room : Nat) : List (List Byte) → List (List Byte)
  | [] => []
  | r :: rs => if r.length ≤ room then r :: fitting (room - r.length) rs else []

/-! ### Notices -/

/-- The KIND of a notice (10.2). -/
def NoticeContent.kind : NoticeContent → Byte
  | .actionDone _ => 0xF0
  | .triggerFired _ _ _ => 0xF1
  | .journalReady _ _ => 0xF2
  | .leaseWarning _ => 0xF3
  | .failsafeEntered _ _ => 0xF4
  | .storeDone _ _ _ => 0xF5

/-- The content of a notice from offset 1 (R196). -/
def NoticeContent.bytes : NoticeContent → List Byte
  | .actionDone r => r.bytes
  | .triggerFired slot firings time =>
    oneByte slot.val :: leBytes 4 firings.toNat ++ timeBytes time
  | .journalReady held oldest => leBytes 2 held ++ leBytes 4 oldest.toNat
  | .leaseWarning remaining => leBytes 2 remaining
  | .failsafeEntered cause time => cause.code :: timeBytes time
  | .storeDone op slot result => [op.code, profileField slot, result.code]

/-- The frame of a notice: its kind, its number in SEQ, the flags byte with the lost-before flag, and
its content (R196). -/
def Notice.frame (n : Notice) : Frame :=
  ⟨n.number, n.content.kind, flagByte n.lostBefore :: n.content.bytes⟩

/-! ### Reply contents, from offset 1 -/

/-- The content of the reply to IDENTIFY (R188, 10.5): vendor 0x3B71, part 0x0428, revision 1. -/
def identifyContent (s : State) : List Byte :=
  let label := s.store.label.getD []
  leBytes 2 0x3B71 ++ leBytes 2 0x0428 ++ [1, s.resetCause.code, s.store.bootResult.code,
    profileField s.store.bootSlot, oneByte label.length]
    ++ (label ++ leBytes 32 0).take 32 ++ timeBytes s.now

/-- The failsafe block of STATUS (10.5). -/
def failsafeBlock : Option FailsafeRecord → List Byte
  | none => leBytes 9 0
  | some r => [1, r.first.code, r.causeByte] ++ timeBytes r.time

/-- The last-result block of STATUS and READ PROFILE (10.5). -/
def lastResultBlock : Option LastResult → List Byte
  | none => leBytes 10 0
  | some r => [1, r.op.code, profileField r.slot, r.result.code] ++ timeBytes r.time

/-- The content of the reply to STATUS (R148, 10.5). -/
def statusContent (s : State) : List Byte :=
  s.session.state.code :: leBytes 2 s.session.number.toNat ++ leBytes 2 s.session.lease
    ++ leBytes 4 s.remainingLease ++ failsafeBlock s.session.record
    ++ [flagByte s.session.safeN.asserted] ++ timeBytes s.now
    ++ [oneByte s.schedule.entries.length, oneByte s.schedule.outcomes.length]
    ++ leBytes 2 s.journal.held ++ leBytes 4 s.journal.oldest.toNat
    ++ [oneByte s.link.notices.length] ++ leBytes 2 s.link.lost ++ leBytes 2 s.link.crcErrors
    ++ leBytes 2 s.link.framingErrors ++ leBytes 2 s.link.overruns
    ++ [s.store.operation.code, profileField s.store.operation.slot]
    ++ lastResultBlock s.store.lastResult

/-- A level set of eight lines: bit 0 is the lowest line, a set bit is HIGH (R192). -/
def levelByte (level : Fin 8 → Level) : Byte :=
  oneByte (((List.finRange 8).map fun k => if level k = .high then 2 ^ k.val else 0).sum)

/-- One level of each line of a bank, 0 for A to 4 for E, as a level set. -/
def bankByte (s : State) (level : Line → Level) (bank : Fin 5) : Byte :=
  levelByte fun k => level (s.lines[8 * bank.val + k.val]'(by omega))

/-- The five level sets of banks A to E (R192). -/
def bankBytes (s : State) (level : Line → Level) : List Byte :=
  (List.finRange 5).map (bankByte s level)

/-- The content of the reply to READ LEVELS (R21, 10.5). -/
def readLevelsContent (s : State) : List Byte :=
  timeBytes s.now ++ bankBytes s Line.sensedLevel ++ bankBytes s Line.reportedEffective

/-- A claim in the reply to READ LINE (10.5). -/
def claimBytes (c : ClaimClass × Claim) : List Byte :=
  [c.1.code, c.2.level.code] ++ c.2.origin.bytes ++ optTimeBytes c.2.expiry

/-- The content of the reply to READ LINE (R22, 10.5). -/
def readLineContent (i : LineNo) (l : Line) : List Byte :=
  oneByte i.val :: l.config.bytes ++ [oneByte l.refs, l.sensedLevel.code, l.reportedEffective.code,
    (l.winningClass.map ClaimClass.code).getD 0, oneByte l.glitches, oneByte l.claims.ranked.length]
    ++ l.claims.ranked.flatMap claimBytes

/-- The content of the reply to READ JOURNAL for a run of records: those that fit in a body of 248 bytes
after the 8 bytes before them (R52, R197). -/
def readJournalContent (j : Journal) (run : List JournalRecord) : List Byte :=
  let records := fitting 240 (run.map JournalRecord.bytes)
  leBytes 2 j.held ++ leBytes 4 j.oldest.toNat ++ [oneByte records.length] ++ records.flatten

/-- The content of the reply to QUERY ACTION (R87, 10.5). -/
def queryContent (e : Entry) : List Byte :=
  e.state.code :: leBytes 4 e.admission.toNat ++ [oneByte e.action.group, flagByte e.action.notify]
    ++ optTimeBytes e.state.due ++ optTimeBytes e.state.deadline
    ++ (match e.action.chain with
        | some c => flagByte true :: leBytes 2 c.predecessor
        | none => flagByte false :: leBytes 2 0)
    ++ leBytes 2 e.applied ++ leBytes 2 e.skipped ++ leBytes 4 e.done ++ leBytes 2 e.remaining
    ++ optTimeBytes e.lastApplied

/-- An entry summary of LIST SCHEDULE (R88, 10.5). -/
def Entry.summary (e : Entry) : List Byte :=
  leBytes 2 e.action.id ++ [e.state.code] ++ optTimeBytes e.state.due ++ [oneByte e.action.group]
    ++ leBytes 4 e.admission.toNat ++ leBytes 4 e.done

/-- The content of the reply to LIST SCHEDULE (R88). -/
def listScheduleContent (c : Schedule) (start count : Nat) : List Byte :=
  let summaries := (((scheduleOrder c.entries).drop start).take count).map Entry.summary
  [oneByte c.entries.length, oneByte summaries.length] ++ summaries.flatten

/-- The content of the reply to READ OUTCOMES (R89). -/
def readOutcomesContent (c : Schedule) : List Byte :=
  oneByte c.outcomes.length :: c.outcomes.flatMap OutcomeRecord.bytes

/-- The content of the reply to READ TRIGGER (R126, 10.5): an EMPTY slot's definition is 29 zeros. -/
def readTriggerContent (k : SlotNo) (slot : Slot) (now : Nat) : List Byte :=
  slot.code :: (match slot.definition with
    | some d => d.bytes k
    | none => leBytes 29 0)
    ++ timeBytes slot.timer ++ leBytes 4 slot.firings.toNat ++ leBytes 2 slot.suppressed
    ++ leBytes 2 slot.unqualified ++ timeBytes now

/-- The condition and generation of a copy; the generation is 0 unless VALID (10.5). -/
def copyBytes {α : Type} (c : Copy α) : List Byte :=
  c.code :: leBytes 4 (match c with
    | .valid g _ => g.toNat
    | .erased | .invalid => 0)

/-- The slot part of the reply to READ PROFILE, offsets 4 to 18 (10.5). -/
def slotPart (p : CopyPair (List ProfileRecord)) : List Byte :=
  p.stateCode :: copyBytes p.copy0 ++ copyBytes p.copy1
    ++ leBytes 4 (match p.loadable with
      | some (_, g, _) => g.toNat
      | none => 0)

/-- The records that READ PROFILE reads from: the staging list, or the loadable profile (R170). -/
def sourceRecords (s : State) : ProfileSource → List ProfileRecord
  | .staging => s.store.staging.records
  | .slot p => match s.store.media.slots[p].loadable with
    | some (_, _, rs) => rs
    | none => []

/-- The content of the reply to READ PROFILE (R170, 10.5). -/
def readProfileContent (s : State) (source : ProfileSource) (start : Nat) : List Byte :=
  let all := sourceRecords s source
  let records := fitting 216 ((all.drop start).map ProfileRecord.bytes)
  [match source with | .staging => 0x10 | .slot p => oneByte p.val,
    s.store.staging.code, profileField s.store.staging.slot]
    ++ (match source with
        | .staging => leBytes 15 0
        | .slot p => slotPart s.store.media.slots[p])
    ++ [oneByte all.length, profileField s.store.media.bootValue] ++ lastResultBlock s.store.lastResult
    ++ [oneByte records.length] ++ records.flatten

end Sys2Proof.Machine
end

