-- ==== Sys2Proof/Machine/Ops.lean ====
section
/-! DEFINITION. The shared operations of the Drive Arbiter (claims, reference counts, line
configuration) and of the Link Port (notices, the transmitter, taking a request), and the wrapper of
every event. -/

namespace Sys2Proof.Machine

/-! ### Counters and free values -/

/-- A 16-bit counter raised by 1, saturating at 65,535. -/
def bump16 (n : Nat) : Nat := min (n + 1) 65535

/-- The state after a free value has been drawn; the value itself is `Config.choice s.freeIx`. -/
def State.drawn (s : State) : State := { s with freeIx := s.freeIx + 1 }

/-! ### Drive Arbiter: one line -/

/-- A claim placed in a class of an output line, replacing the old one entirely (R6). A line in another
mode holds no claim (R4); R10 keeps such a line from being named at all. -/
def Line.place (l : Line) (cls : ClaimClass) (claim : Claim) : Line :=
  if l.isOutput then { l with claims := l.claims.set cls (some claim) } else l

/-- The claim of a class removed, if the line holds one. -/
def Line.drop (l : Line) (cls : ClaimClass) : Line :=
  { l with claims := l.claims.set cls none }

/-- The level TOGGLE places: the inverse of the class's own claim level, or of the base level when the
class holds no claim (R7). -/
def Line.toggled (l : Line) (cls : ClaimClass) : Level :=
  match l.claims.get cls with
  | some c => c.level.inv
  | none => l.config.base.inv

/-- One target value applied to the claim of a class (R7); a hold's expiry goes with the claims that
LOW, HIGH and TOGGLE place (R8). -/
def Line.applyTarget (l : Line) (cls : ClaimClass) (origin : Origin) (expiry : Option Nat) :
    TargetValue → Line
  | .low => l.place cls ⟨.low, origin, expiry⟩
  | .high => l.place cls ⟨.high, origin, expiry⟩
  | .toggle => l.place cls ⟨l.toggled cls, origin, expiry⟩
  | .release => l.drop cls

/-- The BASE claim of a line with this base level (R4). -/
def baseClaim (level : Level) : Claim := ⟨level, .none, none⟩

/-- The base level and the BASE claim of an output line changed together (R4, R15). -/
def Line.setBase (l : Line) (level : Level) : Line :=
  { l with
    config := { l.config with base := level }
    claims := if l.isOutput then l.claims.set .base (some (baseClaim level)) else l.claims }

/-- The claims of a line under a new configuration: kept, with the new base level, where the mode is
kept (R14, R26); where it changes, the BASE claim of an output mode alone (R13, R26). -/
def Line.claimsUnder (l : Line) (config : LineConfig) : ClaimSet :=
  if config.mode = l.config.mode then
    if config.mode.isOutput then l.claims.set .base (some (baseClaim config.base)) else l.claims
  else if config.mode.isOutput then { ClaimSet.empty with base := some (baseClaim config.base) }
  else ClaimSet.empty

/-- The filter of a line whose sensing starts: its first sample, of the pin as the change that starts
sensing leaves it, is the raw and the filtered level (R33). -/
def Line.freshFilter (l : Line) : Filter :=
  let first := pinLevel l.circuit l.ownDrive
  ⟨first, first, none, l.ownDrive, true⟩

/-- A line given a configuration: its claims under it, and sensing that starts, goes on or stops
(R13, R14, R33). -/
def Line.configure (l : Line) (config : LineConfig) : Line :=
  let l' := { l with config := config, claims := l.claimsUnder config }
  if config.mode.isSensed then
    if l.isSensed then l' else { l' with filter := some l'.freshFilter, glitches := 0 }
  else { l' with filter := none }

/-- The FAILSAFE claim of an output line by its failsafe spec, with the level it had just before the
entry for HOLD (R23). -/
def Line.failsafeClaim (l : Line) : Option Claim :=
  match l.config.failsafe with
  | .base => none
  | .low => some ⟨.low, .none, none⟩
  | .high => some ⟨.high, .none, none⟩
  | .hold => some ⟨l.reportedEffective, .none, none⟩

/-- A line at failsafe entry (R23). -/
def Line.enterFailsafe (l : Line) : Line :=
  { l with
    claims :=
      if l.isOutput then ⟨l.failsafeClaim, none, none, none, l.claims.base⟩
      else { l.claims with pin := none, trigger := none, schedule := none } }

/-! ### Drive Arbiter: the lines -/

/-- Every line changed, as one change. -/
def State.mapLines (s : State) (f : LineNo → Line → Line) : State :=
  { s with lines := Vector.ofFn fun i => f i s.lines[i] }

/-- One line changed. -/
def State.updateLine (s : State) (i : LineNo) (f : Line → Line) : State :=
  { s with lines := s.lines.set i (f s.lines[i]) }

/-- The targets of one application, applied as one change (R9). -/
def State.applyTargets (s : State) (cls : ClaimClass) (origin : Origin) (expiry : Option Nat)
    (targets : List Target) : State :=
  s.mapLines fun i l =>
    match targets.find? (fun t => decide (t.line = i)) with
    | some t => l.applyTarget cls origin expiry t.value
    | none => l

/-- Whether a line holds a claim of a class that a test picks. -/
def Line.holds (l : Line) (cls : ClaimClass) (test : Claim → Bool) : Bool :=
  match l.claims.get cls with
  | some c => test c
  | none => false

/-- The claims of a class that a test picks, removed from every line as one change (R25). -/
def State.dropClaims (s : State) (cls : ClaimClass) (test : Claim → Bool) : State :=
  s.mapLines fun _ l => if l.holds cls test then l.drop cls else l

/-- The number of lines that hold a claim of a class that a test picks. -/
def State.countClaims (s : State) (cls : ClaimClass) (test : Claim → Bool) : Nat :=
  s.lines.toList.countP fun l => l.holds cls test

/-- Whether a claim has this origin (R25). -/
def fromOrigin (o : Origin) (c : Claim) : Bool := decide (c.origin = o)

/-- Every PIN, TRIGGER and SCHEDULE claim removed from every line (R25). -/
def State.dropAllClaims (s : State) : State :=
  s.mapLines fun _ l => ((l.drop .pin).drop .trigger).drop .schedule

/-- A reference more on each line named (R10). -/
def State.addRefs (s : State) (names : LineNo → Bool) : State :=
  s.mapLines fun i l => if names i then { l with refs := l.refs + 1 } else l

/-- A reference less on each line named (R10). -/
def State.dropRefs (s : State) (names : LineNo → Bool) : State :=
  s.mapLines fun i l => if names i then { l with refs := l.refs - 1 } else l

/-! ### Link Port: notices -/

/-- The oldest notice goes in flight: transmission count 0, due at once; none when the queue is empty
(R183). -/
def Link.goInFlight (l : Link) : Link :=
  { l with inFlight := if l.notices.isEmpty then .none else ⟨0, true, none⟩ }

/-- The oldest notice leaves the queue, and the next one, if any, goes in flight (R183). -/
def Link.dropOldest (l : Link) : Link := { l with notices := l.notices.tail }.goInFlight

/-- The notice number after a number: 255 is followed by 1 (R182). -/
def nextNoticeNumber (n : Byte) : Byte := if n = 255 then 1 else n + 1

/-- A notice lost: it is counted and the pending-loss mark is set (R182, R183). -/
def Link.loseNotice (l : Link) : Link := { l with lost := bump16 l.lost, lossMark := true }

/-- A notice enqueued or, with 12 notices in the queue, discarded and counted lost (R182). -/
def Link.enqueue (l : Link) (content : NoticeContent) : Link :=
  if l.notices.length < 12 then
    let l' := { l with
      notices := l.notices ++ [⟨l.nextNumber, l.lossMark, content⟩]
      nextNumber := nextNoticeNumber l.nextNumber
      lossMark := false }
    if l.notices.isEmpty then l'.goInFlight else l'
  else l.loseNotice

/-- A block's request to enqueue a notice; in NO_SESSION it is dropped (R182). -/
def State.enqueue (s : State) (content : NoticeContent) : State :=
  match s.session.state with
  | .noSession => s
  | .active | .failsafe => { s with link := s.link.enqueue content }

/-- The notice queue emptied at a CLOSE, with the pending-loss mark cleared (R186). -/
def Link.emptyNotices (l : Link) : Link :=
  { l with notices := [], lossMark := false }.goInFlight

/-! ### Link Port: the transmitter -/

/-- The frame of the in-flight notice when a transmission of it is ready: it is due, and no line break
holds it (R181, R183, R187). -/
def Link.readyNotice (l : Link) : Option Frame :=
  if l.inFlight.due && l.breakSince.isNone then l.notices.head?.map Notice.frame else none

/-- TXD begins the reply that is ready. -/
def Link.startReply (l : Link) (f : Frame) (now : Nat) : Link :=
  { l with tx := .reply f now, reply := none, lastSent := .reply }

/-- TXD begins a transmission of the in-flight notice, which raises its transmission count (R183). -/
def Link.startNotice (l : Link) (f : Frame) (now : Nat) : Link :=
  { l with
    tx := .notice f now
    inFlight := ⟨l.inFlight.count + 1, false, none⟩
    lastSent := .notice }

/-- The transmitter chooses what an idle TXD carries next (R181): with a reply and a notice both ready,
the notice after a reply, and the reply after a notice or with nothing transmitted yet. -/
def Link.arbitrate (l : Link) (now : Nat) : Link :=
  match l.tx with
  | .idle =>
    match l.reply, l.readyNotice with
    | some r, some n =>
      match l.lastSent with
      | .reply => l.startNotice n now
      | .notice | .nothing => l.startReply r now
    | some r, none => l.startReply r now
    | none, some n => l.startNotice n now
    | none, none => l
  | .reply _ _ | .notice _ _ => l

/-- The transmitter's choice at the end of an event. -/
def State.arbitrate (s : State) : State := { s with link := s.link.arbitrate s.now }

/-- An event of the part: nothing while every block is held in reset (R189); otherwise its effect, and
then the transmitter's choice (R181). -/
def State.event (s : State) (f : State → State) : State :=
  if s.held then s else (f s).arbitrate

/-! ### Session Monitor: the lease -/

/-- The lease timer started or restarted at a device time, and the warning armed (R135, R138). -/
def Session.startLease (m : Session) (t : Nat) : Session :=
  { m with
    deadline := if m.lease = 0 then none else some (t + m.lease * 1000)
    warning := if m.lease < 100 then none else some (t + m.lease * 750) }

/-- The renewal of the lease by a valid frame's arrival, in ACTIVE alone (R136). -/
def State.renewLease (s : State) : State :=
  match s.session.state with
  | .active => { s with session := s.session.startLease s.now }
  | .noSession | .failsafe => s

/-! ### Link Port: arrivals and acknowledgements -/

/-- An acknowledgement of a notice number removes the in-flight notice when the numbers match, and is
otherwise ignored (R184). -/
def Link.acknowledge (l : Link) (number : Byte) : Link :=
  match l.notices with
  | n :: _ => if n.number = number then l.dropOldest else l
  | [] => l

/-- The body of an ACK frame taken: one byte, not 0, names a notice; any other body is ignored (R184,
R196). -/
def Link.takeAck (l : Link) (body : List Byte) : Link :=
  match body with
  | [number] => if number = 0 then l else l.acknowledge number
  | _ => l

/-- A valid frame at its arrival (R177), the stop bit of its last character: the framer is back in HUNTING,
the lease is renewed, an acknowledgement is taken at once and any other frame waits behind the frames
already waiting. -/
def State.frameArrives (s : State) (f : Frame) : State :=
  let s := s.renewLease
  let link := { s.link with framer := .hunting, rxd := .high s.now }
  { s with link := if f.kind = ackKind then link.takeAck f.body
                   else { link with waiting := link.waiting ++ [f] } }

/-- Whether a whole frame can arrive: it is no longer than a frame can be (R173), the UART receives (R176,
R187), and the receive buffer has room for it beside the frames waiting (R178). -/
def State.canArrive (s : State) (f : Frame) : Bool :=
  decide (f.body.length ≤ 248) && s.link.hears s.now
    && decide ((s.link.waiting.map Frame.size).sum + f.size ≤ 512)

/-! ### Link Port: taking a request -/

/-- What the owning block answers: the status and reply content of a request taken, with the state it
leaves; or a refusal with its fixed addition, which changes nothing (R179, R195). -/
inductive Answer where
  | done (status : Status) (content : List Byte) (after : State)
  | refuse (status : Status) (addition : List Byte)
deriving DecidableEq

/-- The request kinds that are taken in every session state (R147). -/
def takenInEveryState : List Byte :=
  [0x01, 0x02, 0x03, 0x15, 0x16, 0x20, 0x21, 0x33, 0x34, 0x35, 0x44, 0x58]

/-- The gating of a request kind by the session state (R147). -/
def sessionGate (kind : Byte) (state : SessionState) : Option Status :=
  if takenInEveryState.contains kind then none
  else if kind = 0x08 then
    match state with
    | .noSession => none
    | .active => some .alreadyOpen
    | .failsafe => some .failsafe
  else if kind = 0x0C then
    match state with
    | .noSession | .active => some .noSession
    | .failsafe => none
  else
    match state with
    | .noSession => some .noSession
    | .active => none
    | .failsafe => some .failsafe

/-- The requests that R163 lists, refused while a LOAD is in flight; a CLOSE with mode CLEAR is one. -/
def refusedWhileLoading (f : Frame) : Bool :=
  ([0x10, 0x11, 0x12, 0x13, 0x14, 0x18, 0x23, 0x30, 0x31, 0x32, 0x40, 0x41, 0x42, 0x43] : List Byte).contains
      f.kind
    || (f.kind == 0x0A && byteAt f.body 0 == 1)

/-- Checks 1 to 5 of R179, in their order: the refusal of the first that fails. -/
def gate (f : Frame) (s : State) : Option Status :=
  if s.starting && f.kind != 0x01 then some .starting
  else if !requestKinds.contains f.kind then some .unknownKind
  else if !lengthFits f.kind f.body then some .badLength
  else
    match sessionGate f.kind s.session.state with
    | some st => some st
    | none =>
      if s.store.operation.isLoading && refusedWhileLoading f then some .loading else none

/-- The reply frame to a request: its SEQ, its KIND with the top bit set, and a body that begins with the
status code (R173, R195). -/
def replyTo (f : Frame) (status : Status) (content : List Byte) : Frame :=
  ⟨f.seq, f.kind ||| 0x80, status.code :: content⟩

/-- A reply made ready for TXD (R181). -/
def State.withReply (s : State) (r : Frame) : State :=
  { s with link := { s.link with reply := some r } }

/-- The reply cache replaced with a request taken and its reply (R180). -/
def State.withCache (s : State) (f r : Frame) : State :=
  { s with link := { s.link with cache := some ⟨f.seq, f.kind, r⟩ } }

/-- A request frame taken at the request time (R179, R180): a duplicate gets the cached reply; checks 1
to 5 refuse it with the status alone; else its owning block answers, and a request that passes enters
the reply cache. -/
def State.takeFrame (s : State) (f : Frame) (own : List Byte → State → Answer) : State :=
  match s.link.cached f with
  | some r => s.withReply r
  | none =>
    match gate f s with
    | some st => s.withReply (replyTo f st [])
    | none =>
      match own f.body s with
      | .refuse st addition => s.withReply (replyTo f st addition)
      | .done st content t =>
        (t.withCache f (replyTo f st content)).withReply (replyTo f st content)

/-- The oldest waiting frame taken out of the receive buffer. -/
def State.popWaiting (s : State) : State :=
  { s with link := { s.link with waiting := s.link.waiting.tail } }

/-- A request frame that is waiting; a frame that is not, and that can arrive, arrives now
(assumption 7). -/
def State.present (s : State) (f : Frame) : State :=
  if s.link.waiting.contains f then s
  else if s.canArrive f then s.frameArrives f
  else s

/-- A request command: its frame is waiting, or arrives; it is taken when it is the oldest waiting frame
and no request is being answered, and waits otherwise (R179). -/
def State.serve (s : State) (f : Frame) (own : List Byte → State → Answer) : State :=
  s.event fun s =>
    let s := s.present f
    if s.link.waiting.head? = some f ∧ ¬ s.link.answering then s.popWaiting.takeFrame f own
    else s

/-- A request with its operands checked first: BAD_VALUE when they fail the block's first range check. -/
def withOperands {α : Type} (parsed : Option α) (own : α → Answer) : Answer :=
  match parsed with
  | some a => own a
  | none => .refuse .badValue []

end Sys2Proof.Machine
end

