-- ==== Sys2Proof/Machine/JournalOps.lean ====
section
/-! DEFINITION. The shared operations of the Edge Journal: taking an edge (R47 to R50), the ready check
(R58), and reading and releasing runs of records (R52, R54). -/

namespace Sys2Proof.Machine

/-- Whether a journal sense journals a direction (R47). -/
def Sense.journals : Sense → Direction → Bool
  | .none, _ => false
  | .rise, .rise => true
  | .rise, .fall => false
  | .fall, .rise => false
  | .fall, .fall => true
  | .both, _ => true

/-- The bank snapshot of a line: the sensed levels of its bank (R45, R20). -/
def State.bankSnapshot (s : State) (i : LineNo) : Byte :=
  bankByte s Line.sensedLevel ⟨bankOf i, by unfold bankOf; omega⟩

/-- The list with its newest record changed. -/
def changeNewest (f : JournalRecord → JournalRecord) (rs : List JournalRecord) :
    List JournalRecord :=
  match rs.getLast? with
  | some r => rs.dropLast ++ [f r]
  | none => rs

/-- An open GAP closed; its count and onsets stay (R48). -/
def JournalRecord.close : JournalRecord → JournalRecord
  | .gap seq lost first last _ => .gap seq lost first last false
  | .edge seq line direction onset bank => .edge seq line direction onset bank

/-- An edge counted into a GAP: the lost count rises, saturating, and the last-lost onset is the
edge's (R50). -/
def JournalRecord.countIn (onset : Nat) : JournalRecord → JournalRecord
  | .gap seq lost first _ isOpen => .gap seq (min (lost + 1) 4294967295) first onset isOpen
  | .edge seq line direction t bank => .edge seq line direction t bank

/-- A journaled edge taken, by the held count and the newest record (R48, R49, R50). -/
def Journal.append (j : Journal) (e : Edge) (bank : Byte) : Journal :=
  if j.held < 255 then
    { j with
      records := changeNewest JournalRecord.close j.records
        ++ [.edge j.nextSeq e.line e.direction e.onset bank]
      nextSeq := j.nextSeq + 1 }
  else if j.openGapNewest then
    { j with records := changeNewest (JournalRecord.countIn e.onset) j.records }
  else
    { j with
      records := j.records ++ [.gap j.nextSeq 1 e.onset e.onset true]
      nextSeq := j.nextSeq + 1 }

/-- The ready check after a journaled edge: an armed journal at or above its threshold asks for a
JOURNAL_READY notice and disarms (R58). -/
def State.checkReady (s : State) : State :=
  if s.journal.armed && decide (s.journal.threshold ≤ s.journal.held) then
    let s' := { s with journal := { s.journal with armed := false } }
    s'.enqueue (.journalReady s.journal.held s.journal.oldest)
  else s

/-- Whether the EJ journals an edge (R47). -/
def State.journals (s : State) (e : Edge) : Bool :=
  s.lines[e.line].config.sense.journals e.direction

/-- The EJ takes an edge event (R47, R58). -/
def State.takeJournalEdge (s : State) (e : Edge) : State :=
  if s.journals e then
    { s with journal := s.journal.append e (s.bankSnapshot e.line) }.checkReady
  else s

/-- The held records from the one that carries a sequence number, none when no held record does. -/
def Journal.runFrom (j : Journal) (start : Serial) : Option (List JournalRecord) :=
  match j.records.findIdx? (fun r => decide (r.seq = start)) with
  | some k => some (j.records.drop k)
  | none => none

/-- The records that a READ JOURNAL reads from, before its three limits (R52). -/
def Journal.run (j : Journal) : Option Serial → Option (List JournalRecord)
  | some start => j.runFrom start
  | none => some j.records

/-- The number of records from the oldest through the one that carries a sequence number (R54). -/
def Journal.countThrough (j : Journal) (last : Serial) : Option Nat :=
  (j.records.findIdx? (fun r => decide (r.seq = last))).map (· + 1)

end Sys2Proof.Machine
end

