-- ==== Sys2Proof/Machine/ScheduleOps.lean ====
section
/-! DEFINITION. The shared operations of the Action Scheduler: leaving the schedule and the chain rule
(R76, R103, R104), application (R74), iterations (R98 to R100) and the cancellations (R82 to R85). -/

namespace Sys2Proof.Machine

/-- An outcome record appended; the list keeps the 16 newest (R78). -/
def appendOutcome (outcomes : List OutcomeRecord) (r : OutcomeRecord) : List OutcomeRecord :=
  let all := outcomes ++ [r]
  all.drop (all.length - 16)

/-- The outcome record of an entry that leaves at a device time (R77). -/
def Entry.record (e : Entry) (o : EntryOutcome) (now : Nat) : OutcomeRecord :=
  ⟨e.action.id, o, now, e.applied, e.skipped⟩

/-- The schedule with this entry in place of the queued entry of its id. -/
def Schedule.put (c : Schedule) (e : Entry) : Schedule :=
  { c with entries := c.entries.map fun x => if x.action.id = e.action.id then e else x }

/-- The schedule without the entry of this id, and with an outcome record more (R76). -/
def Schedule.leave (c : Schedule) (e : Entry) (r : OutcomeRecord) : Schedule :=
  { c with
    entries := c.entries.filter fun x => decide (x.action.id ≠ e.action.id)
    outcomes := appendOutcome c.outcomes r }

/-- Whether an outcome asks for an ACTION_DONE notice when the notify flag is set: every one but
ABORTED (R79). -/
def EntryOutcome.reported : EntryOutcome → Bool
  | .aborted => false
  | _ => true

/-- Steps 1 to 4 of a leaving: the entry is removed, its references drop, its outcome record is appended,
and its ACTION_DONE is requested (R76, R79). -/
def State.leaveAlone (s : State) (e : Entry) (o : EntryOutcome) : State :=
  let r := e.record o s.now
  let s := { s with schedule := s.schedule.leave e r }
  let s := s.dropRefs e.action.names
  if e.action.notify && o.reported then s.enqueue (.actionDone r) else s

/-- Whether an entry is a WAITING_PRED dependent of an id (R102). -/
def Entry.waitsFor (e : Entry) (id : Nat) : Bool :=
  match e.state, e.action.chain with
  | .waitingPred, some c => decide (c.predecessor = id)
  | _, _ => false

/-- The WAITING_PRED dependents of an id, in admission order. -/
def Schedule.dependents (c : Schedule) (id : Nat) : List Entry :=
  c.entries.filter fun e => e.waitsFor id

/-- A dependent made TIMED at its predecessor's application time plus its offset (R103). -/
def Entry.release (e : Entry) (time : Nat) : Entry :=
  match e.action.chain with
  | some c => { e with state := .timed (time + c.offset) }
  | none => e

/-- The dependents of an id made TIMED by its application (R103). -/
def Schedule.releaseDependents (c : Schedule) (id time : Nat) : Schedule :=
  { c with entries := c.entries.map fun e => if e.waitsFor id then e.release time else e }

/-- A leaving with the resolution of its dependents (R76, R103, R104): after APPLIED they become TIMED;
after any other outcome each leaves ORPHANED, in admission order and depth first. `depth` bounds the
length of a chain. -/
def State.leaveTree : Nat → State → Entry → EntryOutcome → State
  | 0, s, _, _ => s
  | depth + 1, s, e, o =>
    let s := s.leaveAlone e o
    match o with
    | .applied =>
      { s with schedule := s.schedule.releaseDependents e.action.id s.now }
    | _ =>
      (s.schedule.dependents e.action.id).foldl
        (fun s d => s.leaveTree depth d (.orphaned e.action.id)) s

/-- A queued entry leaves the schedule (R76). No chain is longer than the schedule. -/
def State.leave (s : State) (e : Entry) (o : EntryOutcome) : State :=
  s.leaveTree s.schedule.entries.length e o

/-! ### Application and iterations -/

/-- The application of an entry at the DA, at the present device time (R74). -/
def State.applyAction (s : State) (a : Action) : State :=
  s.applyTargets .schedule (.action a.id) (a.hold.map (s.now + ·)) a.targets

/-- The entry's own record of an application (R74, R98). -/
def Entry.noteApplied (e : Entry) (now : Nat) : Entry :=
  { e with applied := bump16 e.applied, lastApplied := some now }

/-- The entry's own record of a skipped iteration (R92). -/
def Entry.noteSkipped (e : Entry) : Entry := { e with skipped := bump16 e.skipped }

/-- The period of a repeating entry. -/
def Entry.period (e : Entry) : Nat :=
  match e.action.rep with
  | some r => r.period
  | none => 0

/-- The outcome of an entry's last iteration (R75, R92, R100). -/
def Entry.finalOutcome (e : Entry) : EntryOutcome := if e.applied = 0 then .skipped else .applied

/-- What follows an iteration that was due at a time, once it is counted: the entry leaves after its
last one, and otherwise is TIMED one period later (R75, R92, R99, R100). -/
def State.endIteration (s : State) (e : Entry) (due : Nat) : State :=
  if e.atLast then s.leave e e.finalOutcome
  else { s with schedule := s.schedule.put { e with state := .timed (due + e.period) } }

/-- Whether a guard is true: the filtered level of its line equals the wanted level (R91). -/
def State.guardTrue (s : State) (g : Guard) : Bool :=
  decide (s.lines[g.line].sensedLevel = g.wanted)

/-- An entry's iteration that is applied (R74, R98). -/
def State.applyIteration (s : State) (e : Entry) (due : Nat) : State :=
  (s.applyAction e.action).endIteration (e.noteApplied s.now) due

/-- The due arrival of a TIMED entry (R72, R91 to R93). -/
def State.arrive (s : State) (e : Entry) (due : Nat) : State :=
  match e.action.guard with
  | none => s.applyIteration e due
  | some g =>
    if s.guardTrue g then s.applyIteration e due
    else
      match g.mode with
      | .skip => s.endIteration e.noteSkipped due
      | .wait limit =>
        { s with schedule := s.schedule.put { e with state := .guardWait due (due + limit) } }

/-- Whether an entry is TIMED with a due time that has come, and that due time. -/
def Entry.dueBy (e : Entry) (now : Nat) : Option Nat :=
  match e.state with
  | .timed due => if due ≤ now then some due else none
  | .guardWait _ _ | .waitingPred => none

/-- Whether an entry is in GUARD_WAIT with a deadline that has come. -/
def Entry.deadlineBy (e : Entry) (now : Nat) : Bool :=
  match e.state with
  | .guardWait _ deadline => decide (deadline ≤ now)
  | .timed _ | .waitingPred => false

/-- Whether an entry waits in GUARD_WAIT for this edge (R94). -/
def Entry.wantsEdge (e : Entry) (edge : Edge) : Bool :=
  match e.state, e.action.guard with
  | .guardWait _ _, some g =>
    decide (g.line = edge.line) &&
      (match edge.direction, g.wanted with
       | .rise, .high => true
       | .fall, .low => true
       | _, _ => false)
  | _, _ => false

/-- A GUARD_WAIT entry applied by a guard edge: it leaves APPLIED in the same event (R94). -/
def State.applyWaiting (s : State) (id : Nat) : State :=
  match s.schedule.find id with
  | some e => (s.applyAction e.action).leave (e.noteApplied s.now) .applied
  | none => s

/-- The AS takes an edge event: every GUARD_WAIT entry it satisfies is applied, one after another in
schedule order (R94). -/
def State.takeGuardEdge (s : State) (edge : Edge) : State :=
  (((scheduleOrder s.schedule.entries).filter (·.wantsEdge edge)).map (·.action.id)).foldl
    State.applyWaiting s

/-! ### Cancellation -/

/-- The entry of an id leaves CANCELLED if it is still queued; the ids so cancelled are kept. -/
def State.cancelQueued (cause : CancelCause) (acc : State × List Nat) (id : Nat) :
    State × List Nat :=
  match acc.1.schedule.find id with
  | some e => (acc.1.leave e (.cancelled cause), acc.2 ++ [id])
  | none => acc

/-- The queued entries of a group leave CANCELLED, in schedule order; an entry that the chain rule has
made leave before its turn is not cancelled (R82, R83). Also the ids of the entries cancelled. -/
def State.cancelGroup (s : State) (group : Nat) (cause : CancelCause) : State × List Nat :=
  (((scheduleOrder s.schedule.entries).filter fun e => decide (e.action.group = group)).map
    (·.action.id)).foldl (State.cancelQueued cause) (s, [])

/-- Every queued entry leaves with one outcome, in schedule order, and none is ORPHANED (R84, R85). -/
def State.leaveAll (s : State) (o : EntryOutcome) : State :=
  (scheduleOrder s.schedule.entries).foldl (fun s e => s.leaveAlone e o) s

end Sys2Proof.Machine
end

