-- ==== Sys2Proof/Machine/TriggerOps.lean ====
section
/-! DEFINITION. The shared operations of the Trigger Unit: watched edges (R113 to R116), firing (R118,
R119) and standing down (R127, R128). -/

namespace Sys2Proof.Machine

/-- A trigger slot changed. -/
def State.setSlot (s : State) (k : SlotNo) (slot : Slot) : State :=
  { s with slots := s.slots.set k slot }

/-- Whether an edge field selects a direction (R113). -/
def EdgeChoice.selects : EdgeChoice → Direction → Bool
  | .rise, .rise => true
  | .rise, .fall => false
  | .fall, .rise => false
  | .fall, .fall => true
  | .either, _ => true

/-- Whether a definition's qualifier is true; a definition without one behaves as if it were (R113). -/
def State.qualified (s : State) (d : TriggerDef) : Bool :=
  match d.qualifier with
  | some q => decide (s.lines[q.line].sensedLevel = q.level)
  | none => true

/-- The phase after a firing (R119). -/
def TriggerMode.afterFiring : TriggerMode → Nat → Phase
  | .oneshot, _ => .idle
  | .rearm holdoff, now => if holdoff = 0 then .armed else .holdoff (now + holdoff)

/-- Step 2 of a firing: its cancel group, if any, is cancelled by the AS (R83, R118). -/
def State.fireCancel (s : State) (k : SlotNo) (d : TriggerDef) : State :=
  if d.cancelGroup = 0 then s else (s.cancelGroup d.cancelGroup (.trigger k)).1

/-- Step 4 of a firing: its notice, if asked for (R118). -/
def State.fireNotice (s : State) (k : SlotNo) (d : TriggerDef) (firings : Serial) : State :=
  if d.notify then s.enqueue (.triggerFired k firings s.now) else s

/-- Whether the order of a firing's group cancel and its notice request can be seen: both happen, and
some queued entry asks for a notice (R118). -/
def State.fireOrderShows (s : State) (d : TriggerDef) : Bool :=
  decide (d.cancelGroup ≠ 0) && d.notify && s.schedule.entries.any (·.action.notify)

/-- Steps 2 and 4 of a firing, in either order where the order can be seen (R118; assumption 3). -/
def State.fireCancelAndNotice (s : State) (k : SlotNo) (d : TriggerDef) (firings : Serial) : State :=
  if s.fireOrderShows d then
    if Config.choice s.freeIx % 2 = 0 then (s.drawn.fireCancel k d).fireNotice k d firings
    else (s.drawn.fireNotice k d firings).fireCancel k d
  else (s.fireCancel k d).fireNotice k d firings

/-- A slot fires (R118): its targets, its cancel group, its firing count, its notice, its next state. Where
several slots fire in one event, the AS takes the group cancel of each before the next slot fires; R83 and
R118 let it come after a later slot's notice request as well, and after another event of the fire time, such as
the edge that fires the slot reaching the entries in GUARD_WAIT (R106). DESIGN CHOICE, assumption 3. -/
def State.fire (s : State) (k : SlotNo) : State :=
  match s.slots[k].definition with
  | none => s
  | some d =>
    let firings := s.slots[k].firings + 1
    let s := s.applyTargets .trigger (.slot k) (d.hold.map (s.now + ·)) d.targets
    let s := s.fireCancelAndNotice k d firings
    s.setSlot k { s.slots[k] with firings := firings, phase := d.mode.afterFiring s.now }

/-- A watched edge counted suppressed (R115, R116). -/
def Slot.suppress (slot : Slot) : Slot := { slot with suppressed := bump16 slot.suppressed }

/-- A watched edge counted unqualified, with the slot in ARMED (R114, R115). -/
def Slot.disqualify (slot : Slot) : Slot :=
  { slot with unqualified := bump16 slot.unqualified, phase := .armed }

/-- A slot with this definition takes a watched edge, by its state (R114, R115, R116). -/
def State.takeWatched (s : State) (k : SlotNo) (d : TriggerDef) (e : Edge) : State :=
  let slot := s.slots[k]
  match slot.phase with
  | .idle => s
  | .armed =>
    if s.qualified d then
      if d.delay = 0 then s.fire k
      else s.setSlot k { slot with phase := .pending (e.qualified + d.delay) }
    else s.setSlot k slot.disqualify
  | .pending _ =>
    match d.policy with
    | .ignore => s.setSlot k slot.suppress
    | .restart =>
      if s.qualified d then s.setSlot k { slot with phase := .pending (e.qualified + d.delay) }
      else s.setSlot k slot.disqualify
  | .holdoff _ => s.setSlot k slot.suppress

/-- An edge offered to a slot: a non-empty slot that watches the edge's line in its direction takes it
(R113). -/
def State.offerEdge (e : Edge) (s : State) (k : SlotNo) : State :=
  match s.slots[k].definition with
  | none => s
  | some d =>
    if d.watched = e.line ∧ d.edge.selects e.direction then s.takeWatched k d e else s

/-- The TU takes an edge event: it offers it to every slot, lowest slot first (R113). -/
def State.takeTriggerEdge (s : State) (e : Edge) : State :=
  (List.finRange 16).foldl (State.offerEdge e) s

/-- Whether a slot is PENDING with a fire time that has come. -/
def Slot.fireDueBy (slot : Slot) (now : Nat) : Bool :=
  match slot.phase with
  | .pending t => decide (t ≤ now)
  | .idle | .armed | .holdoff _ => false

/-- Whether a slot is in HOLDOFF with an end that has come. -/
def Slot.holdoffOverBy (slot : Slot) (now : Nat) : Bool :=
  match slot.phase with
  | .holdoff t => decide (t ≤ now)
  | .idle | .armed | .pending _ => false

/-- A slot whose fire time has come fires. -/
def State.fireIfDue (s : State) (k : SlotNo) : State :=
  if s.slots[k].fireDueBy s.now then s.fire k else s

/-- A slot returned to DEFINED, with its fire time or holdoff end discarded; an EMPTY slot stays
EMPTY (R124, R127). -/
def Slot.standDown (slot : Slot) : Slot := { slot with phase := .idle }

/-- Every non-EMPTY slot put in DEFINED (R127, R128). -/
def State.standDownAll (s : State) : State :=
  { s with slots := Vector.ofFn fun k => s.slots[k].standDown }

/-- A slot's counters cleared (R121). -/
def Slot.clearCounters (slot : Slot) : Slot :=
  { slot with firings := 0, suppressed := 0, unqualified := 0 }

/-- The lines that a slot references: those its definition names (R10). -/
def Slot.names (slot : Slot) (i : LineNo) : Bool :=
  match slot.definition with
  | some d => d.names i
  | none => false

end Sys2Proof.Machine
end

