-- ==== Sys2Proof/Machine/InputOps.lean ====
section
/-! DEFINITION. The shared operations of the Input Sensing Unit: sampling a line, settles and glitches
(R30, R34, R35), qualification and the delivery of edge events (R36, R37). -/

namespace Sys2Proof.Machine

/-- Whether the TU has a non-empty slot that watches the line of an edge. -/
def State.triggerConcerned (s : State) (e : Edge) : Bool :=
  s.slots.toList.any fun slot =>
    match slot.definition with
    | some d => decide (d.watched = e.line)
    | none => false

/-- Whether the AS has an entry waiting for this edge. -/
def State.guardConcerned (s : State) (e : Edge) : Bool :=
  s.schedule.entries.any (·.wantsEdge e)

/-- Whether at least two of the three receivers have something to do with an edge, so that the order in
which they take it may be seen. -/
def State.deliveryOrderShows (s : State) (e : Edge) : Bool :=
  if s.journals e then s.triggerConcerned e || s.guardConcerned e
  else s.triggerConcerned e && s.guardConcerned e

/-- The three receivers take an edge event in one of their six orders (R37). A slot that the edge fires has its
group cancel taken within the turn of the TU: where the TU comes before the AS, the cancel comes before the
same edge reaches the entries in GUARD_WAIT. R83, R106 and R118 let the AS take that cancel, an event of its
own, after the edge as well. DESIGN CHOICE, assumption 3. -/
def State.deliverInOrder (s : State) (e : Edge) (order : Nat) : State :=
  match order with
  | 0 => ((s.takeJournalEdge e).takeTriggerEdge e).takeGuardEdge e
  | 1 => ((s.takeJournalEdge e).takeGuardEdge e).takeTriggerEdge e
  | 2 => ((s.takeTriggerEdge e).takeJournalEdge e).takeGuardEdge e
  | 3 => ((s.takeTriggerEdge e).takeGuardEdge e).takeJournalEdge e
  | 4 => ((s.takeGuardEdge e).takeJournalEdge e).takeTriggerEdge e
  | _ => ((s.takeGuardEdge e).takeTriggerEdge e).takeJournalEdge e

/-- An edge event delivered to the EJ, the TU and the AS; the order is not fixed (R37; assumption 3). -/
def State.deliver (s : State) (e : Edge) : State :=
  if s.deliveryOrderShows e then s.drawn.deliverInOrder e (Config.choice s.freeIx % 6)
  else s.deliverInOrder e 0

/-- The direction of the edge that leaves a level (R36). -/
def Level.edgeFrom : Level → Direction
  | .low => .rise
  | .high => .fall

/-- A line's filter replaced. -/
def Line.withFilter (l : Line) (f : Filter) : Line := { l with filter := some f }

/-- A line's filtered level changes to the opposite one with no settle left, and the edge event is
delivered at the present device time (R36). -/
def State.qualify (s : State) (i : LineNo) (onset : Nat) : State :=
  match s.lines[i].filter with
  | none => s
  | some f =>
    let s := s.updateLine i (·.withFilter { f with filtered := f.filtered.inv, settle := none })
    s.deliver ⟨i, Level.edgeFrom f.filtered, onset, s.now⟩

/-- A raw change away from the filtered level, at the present device time: a settle begins under the
settle time in force for the line's class, and with settle time 0 the change qualifies at once (R34). -/
def State.beginSettle (s : State) (i : LineNo) : State :=
  let l := s.lines[i]
  let duration := s.settleTimes[l.config.cls]
  match l.filter with
  | none => s
  | some f =>
    if f.raw = f.filtered then s
    else if duration = 0 then s.qualify i s.now
    else s.updateLine i (·.withFilter { f with settle := some ⟨s.now, duration⟩ })

/-- A glitch: the settle is discarded and counted, saturating at 255 (R35). -/
def Line.glitch (l : Line) (f : Filter) : Line :=
  { l with filter := some { f with settle := none }, glitches := min (l.glitches + 1) 255 }

/-- A line's sample taken into its filter (R34, R35). With no settle in progress a sample that differs
from the filtered level begins one; during a settle that is not complete a sample of the filtered
level is a glitch; a settle that is complete waits for its qualification (R36). It is the line's one sample
of this device time (R30). -/
def State.takeSample (s : State) (i : LineNo) (sample : Level) : State :=
  match s.lines[i].filter with
  | none => s
  | some f =>
    let f := { f with raw := sample, sampled := true }
    match f.settle with
    | none => (s.updateLine i (·.withFilter f)).beginSettle i
    | some p =>
      if f.raw = f.filtered ∧ ¬ p.complete s.now then s.updateLine i (·.glitch f)
      else s.updateLine i (·.withFilter f)

/-- The sample that a line's pin gives with this circuit outside: the part's own drive is the one the
last advance of the clock found (R30). -/
def Filter.sample (f : Filter) (circuit : Outside) : Level := pinLevel circuit f.drive

/-- The circuit outside a line's pin changes, or stays, and the line is sampled (R30). A line that is not
sensed is not sampled, and neither is one that has had its sample of this device time: the next is at the
next advance of the clock (R30, R33). -/
def State.sampleLine (s : State) (i : LineNo) (circuit : Outside) : State :=
  let s := s.updateLine i ({ · with circuit := circuit })
  match s.lines[i].filter with
  | none => s
  | some f => if f.sampled then s else s.takeSample i (f.sample circuit)

/-- A line's settle completes (R36): its edge event is produced, and a raw change that the sample of this
device time has already shown then begins a new settle. -/
def State.completeSettle (s : State) (i : LineNo) : State :=
  match s.lines[i].filter with
  | none => s
  | some f =>
    match f.settle with
    | none => s
    | some p => if p.complete s.now then (s.qualify i p.onset).beginSettle i else s

end Sys2Proof.Machine
end

