-- ==== Sys2Proof/Machine/StoreOps.lean ====
section
/-! DEFINITION. The shared operations of the Profile Store: what a profile says of each line, slot and
setting (R160, R164), the whole-profile validation (R160), capture (R158), profile application (R26,
R31, R57, R129), the media (R150, R152) and the end of a store operation (R169). -/

namespace Sys2Proof.Machine

/-! ### What a profile says -/

/-- The configuration that a record describes for a line: a LINES record describes the lines from its
first one onward, in line order (R153). -/
def ProfileRecord.configOf (r : ProfileRecord) (i : LineNo) : Option LineConfig :=
  match r with
  | .lines first configs => if first.val ≤ i.val then configs[i.val - first.val]? else none
  | .filters _ | .journal _ | .trigger _ _ _ | .label _ => none

/-- The configuration of a line under a profile: that of the first LINES record that describes it
(R160), and none for a line that no record describes. -/
def profileConfig (rs : List ProfileRecord) (i : LineNo) : Option LineConfig :=
  rs.findSome? (·.configOf i)

/-- The mode of a line under a profile; a line not described counts as PARK (R160). -/
def profileMode (rs : List ProfileRecord) (i : LineNo) : Mode :=
  match profileConfig rs i with
  | some c => c.mode
  | none => .park

/-- The settle times a profile sets: its FILTERS record's, or the factory values (R31). -/
def profileSettleTimes (rs : List ProfileRecord) : Vector Nat 4 :=
  (rs.findSome? fun r => match r with | .filters t => some t | _ => none).getD factorySettleTimes

/-- The ready threshold a profile sets: its JOURNAL record's, or 1 (R57). -/
def profileThreshold (rs : List ProfileRecord) : Nat :=
  (rs.findSome? fun r => match r with | .journal t => some t | _ => none).getD 1

/-- The label a profile sets, none without a LABEL record (R164). -/
def profileLabel (rs : List ProfileRecord) : Option (List Byte) :=
  rs.findSome? fun r => match r with | .label cs => some cs | _ => none

/-- What a profile's TRIGGER record says of a slot (R129). -/
def profileTrigger (rs : List ProfileRecord) (k : SlotNo) : Option (TriggerDef × Bool) :=
  rs.findSome? fun r => match r with
    | .trigger j d arm => if j = k then some (d, arm) else none
    | _ => none

/-- A trigger slot under a profile (R129). -/
def profileSlot (rs : List ProfileRecord) (k : SlotNo) : Slot :=
  match profileTrigger rs k with
  | some (d, arm) => ⟨some d, if arm then .armed else .idle, 0, 0, 0⟩
  | none => .empty

/-! ### Validation at commit -/

/-- Whether two records are both of one of the kinds FILTERS, JOURNAL and LABEL. -/
def ProfileRecord.sameSingleKind : ProfileRecord → ProfileRecord → Bool
  | .filters _, .filters _ => true
  | .journal _, .journal _ => true
  | .label _, .label _ => true
  | _, _ => false

/-- Whether the lines a trigger definition names have fitting modes: DRIVE or SINK for the targets,
INPUT or SINK for the watched line and the qualifier line (R111, R160). -/
def TriggerDef.fits (d : TriggerDef) (modeOf : LineNo → Mode) : Bool :=
  d.targets.all (fun t => (modeOf t.line).isOutput) && (modeOf d.watched).isSensed &&
    (match d.qualifier with
     | some q => (modeOf q.line).isSensed
     | none => true)

/-- Whether a record of a profile is bad, given the records before it (R160). -/
def ProfileRecord.bad (all earlier : List ProfileRecord) (r : ProfileRecord) : Bool :=
  match r with
  | .lines _ _ => (List.finRange 40).any fun i =>
      (r.configOf i).isSome && (profileConfig earlier i).isSome
  | .filters _ | .journal _ | .label _ => earlier.any r.sameSingleKind
  | .trigger k d _ => (profileTrigger earlier k).isSome || !d.fits (profileMode all)

/-- The index of the lowest bad record among the records from an index on. -/
def lowestBadFrom (all : List ProfileRecord) (index : Nat) :
    List ProfileRecord → List ProfileRecord → Option Nat
  | _, [] => none
  | earlier, r :: rest =>
    if r.bad all earlier then some index
    else lowestBadFrom all (index + 1) (earlier ++ [r]) rest

/-- The refusal index of a staging list: 0 for an empty one, else that of the lowest bad record (R160). -/
def invalidAt (rs : List ProfileRecord) : Option Nat :=
  match rs with
  | [] => some 0
  | _ => lowestBadFrom rs 0 [] rs

/-! ### Capture -/

/-- The LINES record of a bank, when one of its lines is not in PARK (R158). -/
def State.captureBank (s : State) (bank : Fin 5) : Option ProfileRecord :=
  let configs := (List.finRange 8).map fun k =>
    (s.lines[8 * bank.val + k.val]'(by omega)).config
  if configs.any fun c => decide (c.mode ≠ .park) then
    some (.lines ⟨8 * bank.val, by omega⟩ configs)
  else none

/-- The TRIGGER record of a non-EMPTY slot (R158). -/
def State.captureSlot (s : State) (k : SlotNo) : Option ProfileRecord :=
  s.slots[k].definition.map fun d => .trigger k d s.slots[k].running

/-- The records that describe the live state (R158). -/
def State.captureRecords (s : State) : List ProfileRecord :=
  (List.finRange 5).filterMap s.captureBank
    ++ [.filters s.settleTimes, .journal s.journal.threshold]
    ++ (List.finRange 16).filterMap s.captureSlot
    ++ (s.store.label.map .label).toList

/-! ### Profile application -/

/-- The number of slots that name a line. -/
def refsFrom (slots : Vector Slot 16) (i : LineNo) : Nat :=
  (List.finRange 16).countP fun k => slots[k].names i

/-- A line at a profile application: the described or the factory configuration, its TRIGGER claim
removed, and the references of the old slots exchanged for those of the new (R26, R129). -/
def Line.underProfile (l : Line) (config : LineConfig) (oldRefs newRefs : Nat) : Line :=
  let l' := (l.configure config).drop .trigger
  { l' with refs := l'.refs - oldRefs + newRefs }

/-- A whole profile applied at the present device time, as one change (R26, R31, R57, R129, R164). -/
def State.applyProfile (s : State) (rs : List ProfileRecord) : State :=
  let newSlots := Vector.ofFn (profileSlot rs)
  { s with
    settleTimes := profileSettleTimes rs
    lines := Vector.ofFn fun i =>
      s.lines[i].underProfile ((profileConfig rs i).getD .factory) (refsFrom s.slots i)
        (refsFrom newSlots i)
    journal := { s.journal with threshold := profileThreshold rs }
    slots := newSlots
    store := { s.store with label := profileLabel rs } }

/-! ### Media and operations -/

/-- The Profile Store changed. -/
def State.withStore (s : State) (store : Store) : State := { s with store := store }

/-- A copy of a profile slot written or erased. -/
def Media.setCopy (m : Media) (p : ProfileNo) (n : CopyNo) (c : Copy (List ProfileRecord)) : Media :=
  { m with slots := m.slots.set p (m.slots[p].set n c) }

/-- A selector copy written or erased. -/
def Media.setSelector (m : Media) (n : CopyNo) (c : Copy (Option ProfileNo)) : Media :=
  { m with selector := m.selector.set n c }

/-- The end of a store operation, in one change: the operation state becomes NONE, the last-result
record is replaced, and a STORE_DONE notice is requested (R162, R164 to R167, R169). -/
def State.finishStore (s : State) (op : StoreOp) (slot : Option ProfileNo) (r : StoreResult) : State :=
  { s with store := { s.store with operation := .none, lastResult := some ⟨op, slot, r, s.now⟩ } }.enqueue
    (.storeDone op slot r)

/-- A staging list being built is discarded; a list in COMMITTING is left alone (R154). -/
def Staging.discard : Staging → Staging
  | .idle => .idle
  | .staging _ _ => .idle
  | .committing p rs => .committing p rs

/-- The staging list discarded at a CLOSE or a failsafe entry (R154). -/
def State.discardStaging (s : State) : State :=
  { s with store := { s.store with staging := s.store.staging.discard } }

/-! ### Times of the store operations -/

/-- The time a commit of n records takes when its verify finds them as written (R161). -/
def commitTime (n : Nat) : Nat := (20 + n + 2 + 1) * 1000

/-- The time at which a commit of n records ends when its verify finds a difference (R162). -/
def commitFaultTime (n : Nat) : Nat := (20 + n + 2) * 1000

/-- The time a read of n records takes (R163, R171). -/
def readTime (n : Nat) : Nat := 1000 + 500 * n

/-- The time of the first step of an erase, and of the second (R166). -/
def eraseStepTime : Nat := 20000

/-- The time a selector write takes, and the time of its verify's end (R167). -/
def bootWriteTime (verified : Bool) : Nat := if verified then 10000 else 9000

/-- The time the start-up load takes for its steps 1 and 2 (R171). -/
def examineTime : Nat := 2000

/-- The profile that the start-up load reads: that of the slot the selector names, when it has a loadable
copy (R171). -/
def Media.bootProfile (m : Media) : Option (List ProfileRecord) :=
  match m.bootValue with
  | some p => m.slots[p].loadable.map (·.2.2)
  | none => none

/-- The device time at which the start-up load completes (R171). -/
def Media.startupTime (m : Media) : Nat :=
  match m.bootProfile with
  | some rs => examineTime + readTime rs.length
  | none => examineTime

end Sys2Proof.Machine
end

