-- ==== Sys2Proof/Machine/SessionOps.lean ====
section
/-! DEFINITION. The shared operations of the Session Monitor: opening (R134, R146), failsafe entry (R144)
with the abort of a LOAD (R165), a cause that joins the set (R145), SAFE_N (R142, R143), CLOSE (R140), and
the start-up reset of the whole part (R189). -/

namespace Sys2Proof.Machine

/-! ### Opening -/

/-- The session that an OPEN or a RECOVER begins: ACTIVE, the next number, the lease, its timer and its
warning (R133, R134, R146). -/
def Session.begin (m : Session) (ms now : Nat) : Session :=
  { m with state := .active, number := m.number + 1, lease := ms }.startLease now

/-- The session state of the part after an OPEN or a RECOVER. -/
def State.beginSession (s : State) (ms : Nat) : State :=
  { s with session := s.session.begin ms s.now }

/-- Every FAILSAFE claim removed, as one change (R24). -/
def State.dropFailsafeClaims (s : State) : State := s.mapLines fun _ l => l.drop .failsafe

/-! ### Failsafe entry -/

/-- The record of a failsafe entry (R144). -/
def FailsafeRecord.entry (c : FailsafeCause) (t : Nat) : FailsafeRecord :=
  ⟨c, t, decide (c = .lease), decide (c = .request), decide (c = .line)⟩

/-- The Session Monitor's own part of a failsafe entry (R144). -/
def Session.enterFailsafe (m : Session) (c : FailsafeCause) (t : Nat) : Session :=
  { m with state := .failsafe, deadline := none, warning := none, record := some (.entry c t) }

/-- A LOAD in flight aborted by a failsafe entry (R165). -/
def State.abortLoad (s : State) : State :=
  match s.store.operation with
  | .loading p _ => s.finishStore .load (some p) .aborted
  | _ => s

/-- The FAILSAFE_ENTERED notice requested (R144). -/
def State.announceFailsafe (s : State) (c : FailsafeCause) : State :=
  s.enqueue (.failsafeEntered c s.now)

/-- The last part of a failsafe entry: a LOAD in flight is aborted and the entry is announced, in either
order where both happen (R144; assumption 3). -/
def State.abortAndAnnounce (s : State) (c : FailsafeCause) : State :=
  if s.store.operation.isLoading then
    if Config.choice s.freeIx % 2 = 0 then (s.drawn.abortLoad).announceFailsafe c
    else (s.drawn.announceFailsafe c).abortLoad
  else s.announceFailsafe c

/-- Failsafe entry with a cause, at the present device time (R144, R23, R85, R127, R154, R165). -/
def State.enterFailsafe (s : State) (c : FailsafeCause) : State :=
  let s := { s with session := s.session.enterFailsafe c s.now }
  let s := s.mapLines fun _ l => l.enterFailsafe
  let s := s.leaveAll .aborted
  let s := s.standDownAll
  s.discardStaging.abortAndAnnounce c

/-- LINE joins the cause set of the failsafe record (R145). -/
def State.addLineCause (s : State) : State :=
  { s with session := { s.session with
      record := s.session.record.map fun r => { r with hasLine := true } } }

/-! ### SAFE_N -/

/-- The settle of SAFE_N, in µs (R142). -/
def safeNSettle : Nat := 1000

/-- The filter with no settle in progress, which its most recent sample begins when it differs from the
filtered level (R142). -/
def SafeFilter.beginSettle (f : SafeFilter) (now : Nat) : SafeFilter :=
  { f with onset := if (f.raw == .low) = f.asserted then none else some now }

/-- A sample of SAFE_N taken into its filter, the one sample of this device time (R142): it begins a settle,
discards one that is not complete, or leaves it. -/
def SafeFilter.sample (f : SafeFilter) (level : Level) (now : Nat) : SafeFilter :=
  if f.sampled then f
  else
    let f := { f with raw := level, sampled := true }
    match f.onset with
    | none => f.beginSettle now
    | some o =>
      if (level == .low) = f.asserted ∧ now < o + safeNSettle then { f with onset := none } else f

/-- Whether a settle of SAFE_N has reached its completion (R142). -/
def SafeFilter.complete (f : SafeFilter) (now : Nat) : Bool :=
  match f.onset with
  | some o => decide (o + safeNSettle ≤ now)
  | none => false

/-- The filter after its qualification: the level changed; a sample of this device time that already
differs from the new level begins a new settle (R142, R36; assumption 17). -/
def SafeFilter.qualify (f : SafeFilter) (now : Nat) : SafeFilter :=
  { f with asserted := !f.asserted }.beginSettle now

/-- The filter of SAFE_N changed. -/
def State.withSafeN (s : State) (f : SafeFilter) : State :=
  { s with session := { s.session with safeN := f } }

/-- An assertion of SAFE_N, by the session state (R143). -/
def State.assertSafeN (s : State) : State :=
  match s.session.state with
  | .active => s.enterFailsafe .line
  | .noSession => if s.starting then s else s.enterFailsafe .line
  | .failsafe => s.addLineCause

/-! ### CLOSE -/

/-- A CLOSE, in either mode: no session, no lease timer, an empty notice queue, no staging list (R140,
R154, R186). -/
def State.closeSession (s : State) : State :=
  { s with
    session := { s.session with state := .noSession, deadline := none, warning := none }
    link := s.link.emptyNotices }.discardStaging

/-- The further effect of mode CLEAR, after the queue is emptied and the state is NO_SESSION (R84, R128,
R25). -/
def State.clearAll (s : State) : State :=
  ((s.leaveAll (.cancelled .close)).standDownAll).dropAllClaims

/-! ### Start-up reset -/

/-- The rate straps as the board has them at a start-up reset that no command of a strap goes with: two free
values (R172; assumption 13). -/
def State.resampleStraps (s : State) : State :=
  { s with
    pins := { s.pins with rate1 := Config.strapLevel s.freeIx, rate0 := Config.strapLevel (s.freeIx + 1) }
    freeIx := s.freeIx + 2 }

/-- A start-up reset with a cause (R189): every volatile state at its reset value, the rate from the
straps, the SAFE_N filter from its pin. The media is kept; a copy that an operation was writing or
erasing is already marked in it (R168). The outside world, the waiting commands and the model's own
counter of free values are kept too. -/
def State.startUpReset (s : State) (cause : ResetCause) : State where
  pending := s.pending
  pins := s.pins
  resetCause := cause
  now := 0
  settleTimes := factorySettleTimes
  lines := Vector.ofFn fun i => .afterReset s.lines[i].circuit
  journal := .afterReset
  schedule := .afterReset
  slots := Vector.replicate 16 .empty
  session := .afterReset s.pins.safeN
  store := .afterReset s.store.media
  link := .afterReset (.ofStraps s.pins.rate1 s.pins.rate0)
  freeIx := s.freeIx

end Sys2Proof.Machine
end

