-- ==== Sys2Proof/Machine/InputEvents.lean ====
section
/-! DEFINITION. The events of the pins: a raw change and a qualification of a line (R30 to R36), the samples
and the qualification of SAFE_N (R142, R143), and the expiry of a claim (R8, R18). -/

namespace Sys2Proof.Machine

/-- RAW_CHANGE: the circuit outside does this at the line's pin, and the line, if it is sensed and has not
been sampled at this device time, is sampled (R30, R34, R35). While the part is held in reset only the
outside changes. -/
def execRawChange (line : LineNo) (circuit : Outside) (s : State) : Host.Outcome State Fault Refusal :=
  if s.held then .next (s.updateLine line ({ · with circuit := circuit }))
  else .next (s.event (·.sampleLine line circuit))

/-- QUALIFICATION (R36). -/
def execQualification (line : LineNo) (s : State) : Host.Outcome State Fault Refusal :=
  .next (s.event (·.completeSettle line))

/-- Whether a claim has an expiry that has come (R8). -/
def Claim.expiredBy (c : Claim) (now : Nat) : Bool :=
  match c.expiry with
  | some t => decide (t ≤ now)
  | none => false

/-- CLAIM_EXPIRY: the claim whose expiry has come is removed (R8, R18). -/
def execClaimExpiry (line : LineNo) (cls : ClaimClass) (s : State) : Host.Outcome State Fault Refusal :=
  .next (s.event fun s =>
    if s.lines[line].holds cls (·.expiredBy s.now) then s.updateLine line (·.drop cls) else s)

/-- The level of the SAFE_N pin, which is outside the part. -/
def State.withSafeNPin (s : State) (level : Level) : State := { s with pins := { s.pins with safeN := level } }

/-- SAFE_N_CHANGE: the SAFE_N pin has this level, and is sampled if it has not been at this device time
(R142). While the part is held in reset only the pin changes. -/
def execSafeNChange (level : Level) (s : State) : Host.Outcome State Fault Refusal :=
  if s.held then .next (s.withSafeNPin level)
  else .next (s.event fun s =>
    (s.withSafeNPin level).withSafeN (s.session.safeN.sample level s.now))

/-- The qualification of SAFE_N, with the handling of an assertion (R142, R143). -/
def State.qualifySafeN (s : State) : State :=
  let f := s.session.safeN.qualify s.now
  if f.asserted then (s.withSafeN f).assertSafeN else s.withSafeN f

/-- SAFE_N_QUALIFICATION (R142, R143). -/
def execSafeNQualification (s : State) : Host.Outcome State Fault Refusal :=
  .next (s.event fun s => if s.session.safeN.complete s.now then s.qualifySafeN else s)

end Sys2Proof.Machine
end

