-- ==== Sys2Proof/Machine/JournalRequests.lean ====
section
/-! DEFINITION. The journal requests: READ JOURNAL, RELEASE JOURNAL, CLEAR JOURNAL and SET JOURNAL (R52, R54,
R56, R57), with the re-arming of the ready notice (R58). -/

namespace Sys2Proof.Machine

/-- The journal changed. -/
def State.withJournal (s : State) (j : Journal) : State := { s with journal := j }

/-- The ready notice re-armed (R58). -/
def Journal.rearm (j : Journal) : Journal := { j with armed := true }

/-- READ JOURNAL answered (R52). -/
def answerReadJournal (body : List Byte) (s : State) : Answer :=
  withOperands (parseReadJournal body) fun (count, start) =>
    match s.journal.run start with
    | some records =>
      .done .ok (readJournalContent s.journal (records.take count)) (s.withJournal s.journal.rearm)
    | none => .refuse .notFound []

/-- READ JOURNAL. -/
def execReadJournal (seq : Byte) (body : List Byte) (s : State) : Host.Outcome State Fault Refusal :=
  .next (s.serve ⟨seq, 0x20, body⟩ answerReadJournal)

/-- The oldest records removed (R54). -/
def Journal.release (j : Journal) (count : Nat) : Journal := { j with records := j.records.drop count }

/-- RELEASE JOURNAL answered (R54). -/
def answerReleaseJournal (body : List Byte) (s : State) : Answer :=
  match s.journal.countThrough (BitVec.ofNat 32 (field body 0 4)) with
  | some count =>
    .done .ok (leBytes 2 count ++ leBytes 2 (s.journal.release count).held)
      (s.withJournal (s.journal.release count))
  | none => .refuse .notFound []

/-- RELEASE JOURNAL. -/
def execReleaseJournal (seq : Byte) (body : List Byte) (s : State) : Host.Outcome State Fault Refusal :=
  .next (s.serve ⟨seq, 0x21, body⟩ answerReleaseJournal)

/-- Every record removed, and the ready notice re-armed (R56). -/
def Journal.clear (j : Journal) : Journal := { j with records := [], armed := true }

/-- CLEAR JOURNAL answered (R56). -/
def answerClearJournal (_ : List Byte) (s : State) : Answer :=
  .done .ok (leBytes 2 s.journal.held) (s.withJournal s.journal.clear)

/-- CLEAR JOURNAL. -/
def execClearJournal (seq : Byte) (body : List Byte) (s : State) : Host.Outcome State Fault Refusal :=
  .next (s.serve ⟨seq, 0x22, body⟩ answerClearJournal)

/-- The ready threshold replaced (R57). -/
def Journal.setThreshold (j : Journal) (t : Nat) : Journal := { j with threshold := t }

/-- SET JOURNAL answered, with the threshold in force before it (R57). -/
def answerSetJournal (body : List Byte) (s : State) : Answer :=
  withOperands (parseThreshold body) fun t =>
    .done .ok (leBytes 2 s.journal.threshold) (s.withJournal (s.journal.setThreshold t))

/-- SET JOURNAL. -/
def execSetJournal (seq : Byte) (body : List Byte) (s : State) : Host.Outcome State Fault Refusal :=
  .next (s.serve ⟨seq, 0x23, body⟩ answerSetJournal)

end Sys2Proof.Machine
end

