-- ==== Sys2Proof/Machine/LineRequests.lean ====
section
/-! DEFINITION. The line requests: CONFIGURE LINES, SET BASE, SET FAILSAFE, PIN LINES, UNPIN LINES, READ
LEVELS, READ LINE (R12 to R22) and SET FILTER CLASSES (R32). -/

namespace Sys2Proof.Machine

/-- The addition that names a line in a refusal (R195). -/
def lineAddition (i : LineNo) : List Byte := [oneByte i.val]

/-- The first of some lines, in list order, that is not in DRIVE or SINK mode (R15 to R19, R65, R112). -/
def State.firstNotOutput (s : State) (lines : List LineNo) : Option LineNo :=
  lines.find? fun i => !s.lines[i].isOutput

/-- A request on listed lines, refused with BAD_TARGET unless each is an output line (R15 to R19). -/
def onOutputs (s : State) (lines : List LineNo) (own : Answer) : Answer :=
  match s.firstNotOutput lines with
  | some i => .refuse .badTarget (lineAddition i)
  | none => own

/-- Whether a line holds any claim other than BASE. -/
def Line.claimedAboveBase (l : Line) : Bool :=
  l.claims.failsafe.isSome || l.claims.pin.isSome || l.claims.trigger.isSome || l.claims.schedule.isSome

/-- Whether a setting that changes a line's mode meets a line in use (R12). -/
def Line.inUseFor (l : Line) (config : LineConfig) : Bool :=
  decide (config.mode ≠ l.config.mode) && (decide (l.refs ≠ 0) || l.claimedAboveBase)

/-- The first of some line settings, in list order, that is refused (R12). -/
def State.firstInUse (s : State) (settings : List LineSetting) : Option LineSetting :=
  settings.find? fun x => s.lines[x.line].inUseFor x.config

/-- Line settings applied, as one change (R13, R14). -/
def State.configureLines (s : State) (settings : List LineSetting) : State :=
  s.mapLines fun i l =>
    match settings.find? fun x => decide (x.line = i) with
    | some x => l.configure x.config
    | none => l

/-- CONFIGURE LINES answered (R12). -/
def answerConfigureLines (body : List Byte) (s : State) : Answer :=
  withOperands (parseConfigureLines body) fun settings =>
    match s.firstInUse settings with
    | some x => .refuse .lineInUse (lineAddition x.line)
    | none => .done .ok [] (s.configureLines settings)

/-- CONFIGURE LINES. -/
def execConfigureLines (seq : Byte) (body : List Byte) (s : State) : Host.Outcome State Fault Refusal :=
  .next (s.serve ⟨seq, 0x10, body⟩ answerConfigureLines)

/-- Base levels set, as one change (R15). -/
def State.setBases (s : State) (settings : List BaseSetting) : State :=
  s.mapLines fun i l =>
    match settings.find? fun x => decide (x.line = i) with
    | some x => l.setBase x.level
    | none => l

/-- SET BASE answered (R15). -/
def answerSetBase (body : List Byte) (s : State) : Answer :=
  withOperands (parseSetBase body) fun settings =>
    onOutputs s (settings.map (·.line)) (.done .ok [] (s.setBases settings))

/-- SET BASE. -/
def execSetBase (seq : Byte) (body : List Byte) (s : State) : Host.Outcome State Fault Refusal :=
  .next (s.serve ⟨seq, 0x11, body⟩ answerSetBase)

/-- A line's failsafe spec stored (R16). -/
def Line.setSpec (l : Line) (spec : FailsafeSpec) : Line :=
  { l with config := { l.config with failsafe := spec } }

/-- Failsafe specs stored, as one change (R16). -/
def State.setSpecs (s : State) (settings : List SpecSetting) : State :=
  s.mapLines fun i l =>
    match settings.find? fun x => decide (x.line = i) with
    | some x => l.setSpec x.spec
    | none => l

/-- SET FAILSAFE answered (R16). -/
def answerSetFailsafe (body : List Byte) (s : State) : Answer :=
  withOperands (parseSetFailsafe body) fun settings =>
    onOutputs s (settings.map (·.line)) (.done .ok [] (s.setSpecs settings))

/-- SET FAILSAFE. -/
def execSetFailsafe (seq : Byte) (body : List Byte) (s : State) : Host.Outcome State Fault Refusal :=
  .next (s.serve ⟨seq, 0x12, body⟩ answerSetFailsafe)

/-- The PIN claim of an item at a pin time (R17). -/
def PinItem.claim (x : PinItem) (now : Nat) : Claim := ⟨x.level, .none, x.duration.map (now + ·)⟩

/-- PIN claims placed, as one change (R17). -/
def State.pinLines (s : State) (items : List PinItem) : State :=
  s.mapLines fun i l =>
    match items.find? fun x => decide (x.line = i) with
    | some x => l.place .pin (x.claim s.now)
    | none => l

/-- PIN LINES answered (R17). -/
def answerPinLines (body : List Byte) (s : State) : Answer :=
  withOperands (parsePinLines body) fun items =>
    onOutputs s (items.map (·.line)) (.done .ok (timeBytes s.now) (s.pinLines items))

/-- PIN LINES. -/
def execPinLines (seq : Byte) (body : List Byte) (s : State) : Host.Outcome State Fault Refusal :=
  .next (s.serve ⟨seq, 0x13, body⟩ answerPinLines)

/-- PIN claims removed from the lines that a test picks, as one change (R19). -/
def State.unpin (s : State) (picked : LineNo → Bool) : State :=
  s.mapLines fun i l => if picked i then l.drop .pin else l

/-- The number of PIN claims on the lines that a test picks. -/
def State.countPins (s : State) (picked : LineNo → Bool) : Nat :=
  (List.finRange 40).countP fun i => picked i && s.lines[i].claims.pin.isSome

/-- The lines that an UNPIN LINES names. -/
def UnpinForm.picks : UnpinForm → LineNo → Bool
  | .all, _ => true
  | .list lines, i => lines.contains i

/-- The lines that an UNPIN LINES lists, which must be output lines (R19). -/
def UnpinForm.listed : UnpinForm → List LineNo
  | .all => []
  | .list lines => lines

/-- UNPIN LINES answered (R19). -/
def answerUnpinLines (body : List Byte) (s : State) : Answer :=
  withOperands (parseUnpinLines body) fun form =>
    onOutputs s form.listed (.done .ok [oneByte (s.countPins form.picks)] (s.unpin form.picks))

/-- UNPIN LINES. -/
def execUnpinLines (seq : Byte) (body : List Byte) (s : State) : Host.Outcome State Fault Refusal :=
  .next (s.serve ⟨seq, 0x14, body⟩ answerUnpinLines)

/-- READ LEVELS answered (R21). -/
def answerReadLevels (_ : List Byte) (s : State) : Answer := .done .ok (readLevelsContent s) s

/-- READ LEVELS. -/
def execReadLevels (seq : Byte) (body : List Byte) (s : State) : Host.Outcome State Fault Refusal :=
  .next (s.serve ⟨seq, 0x15, body⟩ answerReadLevels)

/-- A line's glitch count cleared (R22). -/
def State.clearGlitches (s : State) (i : LineNo) : State :=
  s.updateLine i ({ · with glitches := 0 })

/-- READ LINE answered: the glitch count is cleared after its value is taken (R22). -/
def answerReadLine (body : List Byte) (s : State) : Answer :=
  withOperands (parseReadLine body) fun i =>
    .done .ok (readLineContent i s.lines[i]) (s.clearGlitches i)

/-- READ LINE. -/
def execReadLine (seq : Byte) (body : List Byte) (s : State) : Host.Outcome State Fault Refusal :=
  .next (s.serve ⟨seq, 0x16, body⟩ answerReadLine)

/-- The settle times replaced (R32). -/
def State.setSettleTimes (s : State) (times : Vector Nat 4) : State := { s with settleTimes := times }

/-- SET FILTER CLASSES answered, with the settle times in force before it (R32). -/
def answerSetFilterClasses (body : List Byte) (s : State) : Answer :=
  .done .ok (settleTimesBytes s.settleTimes) (s.setSettleTimes (parseSettleTimes body))

/-- SET FILTER CLASSES. -/
def execSetFilterClasses (seq : Byte) (body : List Byte) (s : State) :
    Host.Outcome State Fault Refusal :=
  .next (s.serve ⟨seq, 0x18, body⟩ answerSetFilterClasses)

end Sys2Proof.Machine
end

