-- ==== Sys2Proof/Machine/LinkEvents.lean ====
section
/-! DEFINITION. The link events (9.3 to 9.7): unknown requests, valid frames and acknowledgements, the
characters and faults of the framer, the line break, and the ends and times of transmissions. -/

namespace Sys2Proof.Machine

/-- The Link Port changed. -/
def State.withLink (s : State) (link : Link) : State := { s with link := link }

/-- A request of an unknown kind has no owning block; check 2 of R179 refuses it before one is asked. -/
def answerUnknown (_ : List Byte) (_ : State) : Answer := .refuse .unknownKind []

/-- A waiting frame whose KIND is no request kind is taken (R177, R179). -/
def execUnknownRequest (seq kind : Byte) (body : List Byte) (s : State) :
    Host.Outcome State Fault Refusal :=
  if requestKinds.contains kind || kind == ackKind then .next s
  else .next (s.serve ⟨seq, kind, body⟩ answerUnknown)

/-- A whole frame passes its check (R177). -/
def execValidFrameArrival (seq kind : Byte) (body : List Byte) (s : State) :
    Host.Outcome State Fault Refusal :=
  .next (s.event fun s => if s.canArrive ⟨seq, kind, body⟩ then s.frameArrives ⟨seq, kind, body⟩ else s)

/-- A valid frame of the ACK kind arrives (R184). -/
def execAck (seq : Byte) (body : List Byte) (s : State) : Host.Outcome State Fault Refusal :=
  .next (s.event fun s =>
    if s.canArrive ⟨seq, ackKind, body⟩ then s.frameArrives ⟨seq, ackKind, body⟩ else s)

/-! ### The framer -/

/-- A partial frame discarded, with the framing error counted (R175, R176). -/
def Link.framingError (l : Link) : Link :=
  { l with framer := .hunting, framingErrors := bump16 l.framingErrors }

/-- A frame discarded for its CHECK (R177). -/
def Link.crcError (l : Link) : Link :=
  { l with framer := .hunting, crcErrors := bump16 l.crcErrors }

/-- A character lost to overrun, and with it a partial frame (R178). -/
def Link.overrun (l : Link) : Link :=
  { l with framer := .hunting, overruns := bump16 l.overruns }

/-- Whether a LEN byte is out of its range 2..250 (R175). -/
def badLen (len : Byte) : Bool := decide (len.toNat < 2) || decide (250 < len.toNat)

/-- Whether the framer would store a character (R175): a SYNC in HUNTING, and in RECEIVING anything but
a LEN out of range. -/
def Framer.stores (f : Framer) (ch : Byte) : Bool :=
  match f with
  | .hunting => ch == syncByte
  | .receiving bs _ => !(decide (bs.length = 1) && badLen ch)

/-- The length of the whole frame that stored bytes begin: LEN + 4 (R175). -/
def wholeLength (bs : List Byte) : Nat := (bs.getD 1 0).toNat + 4

/-- A whole frame checked (R177). -/
def State.wholeFrame (s : State) (bs : List Byte) : State :=
  match Frame.ofBytes bs with
  | some f => s.frameArrives f
  | none => s.withLink s.link.crcError

/-- A character received that the framer stores (R175, R177, R178). -/
def State.storeCharacter (s : State) (ch : Byte) : State :=
  if 512 ≤ s.link.bufferBytes then s.withLink s.link.overrun
  else
    match s.link.framer with
    | .hunting => s.withLink { s.link with framer := .receiving [ch] s.now }
    | .receiving bs _ =>
      if bs.length + 1 = wholeLength (bs ++ [ch]) then s.wholeFrame (bs ++ [ch])
      else s.withLink { s.link with framer := .receiving (bs ++ [ch]) s.now }

/-- A character that the framer examines (R175): stored, or a LEN out of range, or no SYNC. -/
def State.examine (s : State) (ch : Byte) : State :=
  if s.link.framer.stores ch then s.storeCharacter ch
  else
    match s.link.framer with
    | .hunting => s
    | .receiving _ _ => s.withLink s.link.framingError

/-- The stop bit of a character finds RXD high (R172). -/
def Link.heard (l : Link) (now : Nat) : Link := { l with rxd := .high now }

/-- A character received, its stop bit high (R172, R175). While the UART receives nothing no character comes
(R176, R187). -/
def State.receive (s : State) (ch : Byte) : State :=
  if s.link.hears s.now then (s.withLink (s.link.heard s.now)).examine ch else s

/-- CHARACTER_RECEIVED (R175). -/
def execCharacterReceived (character : Byte) (s : State) : Host.Outcome State Fault Refusal :=
  .next (s.event (·.receive character))

/-- An event of the receiver: none while the UART receives nothing (R176, R187). -/
def State.onRxd (s : State) (f : Link → Link) : State :=
  if s.link.hears s.now then s.withLink (f s.link) else s

/-- CRC_ERROR (R177). -/
def execCrcError (s : State) : Host.Outcome State Fault Refusal :=
  .next (s.event fun s => s.onRxd fun l => (l.heard s.now).crcError)

/-- Whether the next character received can be a LEN: the framer holds a SYNC alone, or is in HUNTING
with room for one, the SYNC then being received with it. -/
def Link.atLen (l : Link) : Bool :=
  match l.framer with
  | .hunting => decide (l.bufferBytes < 512)
  | .receiving bs _ => decide (bs.length = 1)

/-- LEN_OUT_OF_RANGE (R175). -/
def execLenOutOfRange (len : Byte) (s : State) : Host.Outcome State Fault Refusal :=
  .next (s.event fun s =>
    s.onRxd fun l => if badLen len && l.atLen then (l.heard s.now).framingError else l)

/-- Whether 5,000 µs have passed in RECEIVING since the last character stored (R176). -/
def Link.gapOver (l : Link) (now : Nat) : Bool :=
  match l.framer with
  | .hunting => false
  | .receiving _ lastAt => decide (lastAt + 5000 ≤ now)

/-- FRAME_GAP_TIMEOUT (R176). -/
def execFrameGapTimeout (s : State) : Host.Outcome State Fault Refusal :=
  .next (s.event fun s => if s.link.gapOver s.now then s.withLink s.link.framingError else s)

/-- The UART receives no further character until RXD has been high for one bit time, so that the next one
arrives a character time later at the earliest (R176, R187; assumption 23). -/
def Link.deafened (l : Link) (now : Nat) : Link :=
  { l with deafUntil := now + l.rate.charactersTime 1 }

/-- A character fault (R176): the framing error, and a UART that receives nothing for a time. RXD was high
before the character's start bit, and can have been low from that bit on (R187; assumption 21). -/
def Link.characterFault (l : Link) (now : Nat) : Link :=
  { l.framingError.deafened now with rxd := .low (max l.rxd.lowFrom (now - l.rate.characterSpan)) }

/-- CHARACTER_FAULT (R176). -/
def execCharacterFault (s : State) : Host.Outcome State Fault Refusal :=
  .next (s.event fun s => s.onRxd (·.characterFault s.now))

/-- OVERRUN: a character that the framer would store finds 512 bytes in the receive buffer (R178). -/
def execOverrun (character : Byte) (s : State) : Host.Outcome State Fault Refusal :=
  .next (s.event fun s => s.onRxd fun l =>
    if l.framer.stores character && decide (512 ≤ l.bufferBytes) then (l.heard s.now).overrun else l)

/-! ### The line break -/

/-- The link at a line break (R187): the in-flight notice keeps its place. -/
def Link.atBreak (l : Link) (now : Nat) : Link :=
  { l with
    framer := .hunting
    waiting := []
    cache := none
    inFlight := { l.inFlight with count := 0, retransmitAt := none }
    breakSince := some now }

/-- LINE_BREAK: RXD has been low without interruption for 2,000 µs (R187), timed from the last start-up reset
at the earliest (R191). -/
def execLineBreak (s : State) : Host.Outcome State Fault Refusal :=
  .next (s.event fun s =>
    if s.link.breakSince.isNone && s.link.rxd.lowForBreak s.now then s.withLink (s.link.atBreak s.now)
    else s)

/-- The link at the end of a line break: RXD has risen, and can be low again from now on; the UART receives
from the next start bit; and the in-flight notice, if any, is due at once, with its count at 0 (R187). -/
def Link.endBreak (l : Link) (now : Nat) : Link :=
  { l.deafened now with breakSince := none, rxd := .low now }.goInFlight

/-- LINE_BREAK_END (R187). -/
def execLineBreakEnd (s : State) : Host.Outcome State Fault Refusal :=
  .next (s.event fun s =>
    if s.link.breakSince.isSome then s.withLink (s.link.endBreak s.now) else s)

/-! ### Transmissions -/

/-- TXD free again. -/
def Link.endTransmission (l : Link) : Link := { l with tx := .idle }

/-- The end of the reply on TXD, once its characters have had their time (R172, R181); that of a RESET is
followed by a start-up reset (R190). -/
def State.endReply (s : State) : State :=
  match s.link.tx with
  | .reply f since =>
    if s.link.sentBy f since s.now then
      if s.link.resetPending then s.resampleStraps.startUpReset .request
      else s.withLink s.link.endTransmission
    else s
  | .idle | .notice _ _ => s

/-- REPLY_TRANSMISSION_END (R181, R190). -/
def execReplyTransmissionEnd (s : State) : Host.Outcome State Fault Refusal :=
  .next (s.event State.endReply)

/-- The retransmission delay in µs (R183). -/
def retransmissionDelay : Nat := 50000

/-- The end of a notice's transmission, for the notice still in flight that was transmitted: its
retransmission time is set (R183). A notice whose count a line break has set to 0, one that is due
again, and one that has left the queue set none (R184, R187). -/
def Link.endNotice (l : Link) (f : Frame) (now : Nat) : Link :=
  let l := l.endTransmission
  match l.notices with
  | n :: _ =>
    if n.number = f.seq ∧ ¬ l.inFlight.due ∧ l.inFlight.count ≠ 0 then
      { l with inFlight := { l.inFlight with retransmitAt := some (now + retransmissionDelay) } }
    else l
  | [] => l

/-- NOTICE_TRANSMISSION_END (R183), once the notice's characters have had their time (R172). -/
def execNoticeTransmissionEnd (s : State) : Host.Outcome State Fault Refusal :=
  .next (s.event fun s =>
    match s.link.tx with
    | .notice f since =>
      if s.link.sentBy f since s.now then s.withLink (s.link.endNotice f s.now) else s
    | .idle | .reply _ _ => s)

/-- Whether the retransmission time of the in-flight notice has come; while a line break is present
there is none (R183, R187). -/
def Link.retransmitBy (l : Link) (now : Nat) : Bool :=
  l.breakSince.isNone &&
    (match l.inFlight.retransmitAt with
     | some t => decide (t ≤ now)
     | none => false)

/-- The in-flight notice at its retransmission time: due again, or dropped and counted lost after its
fourth transmission (R183). -/
def Link.retransmit (l : Link) : Link :=
  if l.inFlight.count < 4 then { l with inFlight := ⟨l.inFlight.count, true, none⟩ }
  else l.dropOldest.loseNotice

/-- RETRANSMISSION_TIME (R183). -/
def execRetransmissionTime (s : State) : Host.Outcome State Fault Refusal :=
  .next (s.event fun s => if s.link.retransmitBy s.now then s.withLink s.link.retransmit else s)

end Sys2Proof.Machine
end

