-- ==== Sys2Proof/Machine/ProfileRequests.lean ====
section
/-! DEFINITION. The profile requests: BEGIN PROFILE, APPEND RECORD, CAPTURE, ABANDON PROFILE (R156 to R159),
COMMIT PROFILE (R160, R161), LOAD PROFILE (R163), ERASE PROFILE (R166), SET BOOT SLOT (R167) and READ
PROFILE (R170). -/

namespace Sys2Proof.Machine

/-- A request that an operation in flight refuses with STORE_BUSY (R155). -/
def unlessBusy (s : State) (own : Answer) : Answer :=
  if s.store.operation.inFlight then .refuse .storeBusy [] else own

/-- A request that needs the staging state STAGING, refused NOT_STAGING otherwise (R157 to R160). -/
def whenStaging (s : State) (own : ProfileNo → List ProfileRecord → Answer) : Answer :=
  match s.store.staging with
  | .staging p rs => own p rs
  | .idle | .committing _ _ => .refuse .notStaging []

/-- The staging state and list changed. -/
def State.withStaging (s : State) (staging : Staging) : State :=
  { s with store := { s.store with staging := staging } }

/-- BEGIN PROFILE answered (R156). -/
def answerBeginProfile (body : List Byte) (s : State) : Answer :=
  withOperands (parseProfileSlot body) fun p =>
    unlessBusy s <|
      match s.store.staging with
      | .idle => .done .ok [] (s.withStaging (.staging p []))
      | .staging _ _ | .committing _ _ => .refuse .stageOpen []

/-- BEGIN PROFILE. -/
def execBeginProfile (seq : Byte) (body : List Byte) (s : State) : Host.Outcome State Fault Refusal :=
  .next (s.serve ⟨seq, 0x50, body⟩ answerBeginProfile)

/-- APPEND RECORD answered (R157). -/
def answerAppendRecord (body : List Byte) (s : State) : Answer :=
  withOperands (parseAppendRecord body) fun r =>
    unlessBusy s <| whenStaging s fun p rs =>
      if 32 ≤ rs.length then .refuse .profileFull []
      else .done .ok [oneByte rs.length, oneByte (rs.length + 1)] (s.withStaging (.staging p (rs ++ [r])))

/-- APPEND RECORD. -/
def execAppendRecord (seq : Byte) (body : List Byte) (s : State) : Host.Outcome State Fault Refusal :=
  .next (s.serve ⟨seq, 0x51, body⟩ answerAppendRecord)

/-- CAPTURE answered (R158). -/
def answerCapture (_ : List Byte) (s : State) : Answer :=
  unlessBusy s <| whenStaging s fun p _ =>
    .done .ok [oneByte s.captureRecords.length] (s.withStaging (.staging p s.captureRecords))

/-- CAPTURE. -/
def execCapture (seq : Byte) (body : List Byte) (s : State) : Host.Outcome State Fault Refusal :=
  .next (s.serve ⟨seq, 0x52, body⟩ answerCapture)

/-- ABANDON PROFILE answered (R159). -/
def answerAbandonProfile (_ : List Byte) (s : State) : Answer :=
  unlessBusy s <| whenStaging s fun _ rs =>
    .done .ok [oneByte rs.length] (s.withStaging .idle)

/-- ABANDON PROFILE. -/
def execAbandonProfile (seq : Byte) (body : List Byte) (s : State) : Host.Outcome State Fault Refusal :=
  .next (s.serve ⟨seq, 0x53, body⟩ answerAbandonProfile)

/-- A commit started, as one change (R161): the target copy is INVALID from the start of its erase. -/
def State.startCommit (s : State) (p : ProfileNo) (rs : List ProfileRecord) : State :=
  let pair := s.store.media.slots[p]
  { s.drawn with store := { s.store with
      media := s.store.media.setCopy p pair.target .invalid
      staging := .committing p rs
      operation := .committing p pair.target pair.nextGeneration s.now s.freeIx } }

/-- COMMIT PROFILE answered (R160, R161). -/
def answerCommitProfile (_ : List Byte) (s : State) : Answer :=
  unlessBusy s <| whenStaging s fun p rs =>
    match invalidAt rs with
    | some index => .refuse .invalidProfile [oneByte index]
    | none =>
      .done .started
        (s.store.media.slots[p].target.code :: leBytes 4 s.store.media.slots[p].nextGeneration.toNat)
        (s.startCommit p rs)

/-- COMMIT PROFILE. -/
def execCommitProfile (seq : Byte) (body : List Byte) (s : State) : Host.Outcome State Fault Refusal :=
  .next (s.serve ⟨seq, 0x54, body⟩ answerCommitProfile)

/-- The operation in flight set. -/
def State.withOperation (s : State) (op : Operation) : State :=
  { s with store := { s.store with operation := op } }

/-- Whether the schedule holds an entry, or any line holds a PIN claim (R163). -/
def State.loadBlocked (s : State) : Bool :=
  !s.schedule.entries.isEmpty || (List.finRange 40).any fun i => s.lines[i].claims.pin.isSome

/-- LOAD PROFILE answered (R163). -/
def answerLoadProfile (body : List Byte) (s : State) : Answer :=
  withOperands (parseProfileSlot body) fun p =>
    unlessBusy s <|
      match s.store.media.slots[p].loadable with
      | none => .refuse .slotEmpty [s.store.media.slots[p].stateCode]
      | some (_, g, rs) =>
        if s.loadBlocked then .refuse .lineInUse []
        else .done .started (leBytes 4 g.toNat ++ [oneByte rs.length])
          (s.withOperation (.loading p s.now))

/-- LOAD PROFILE. -/
def execLoadProfile (seq : Byte) (body : List Byte) (s : State) : Host.Outcome State Fault Refusal :=
  .next (s.serve ⟨seq, 0x55, body⟩ answerLoadProfile)

/-- An erase started: the first copy is INVALID from the start of its step (R150, R166). -/
def State.startErase (s : State) (p : ProfileNo) : State :=
  let first := s.store.media.slots[p].target
  { s with store := { s.store with
      media := s.store.media.setCopy p first .invalid
      operation := .erasing p first s.now false } }

/-- ERASE PROFILE answered (R166). -/
def answerEraseProfile (body : List Byte) (s : State) : Answer :=
  withOperands (parseProfileSlot body) fun p => unlessBusy s (.done .started [] (s.startErase p))

/-- ERASE PROFILE. -/
def execEraseProfile (seq : Byte) (body : List Byte) (s : State) : Host.Outcome State Fault Refusal :=
  .next (s.serve ⟨seq, 0x56, body⟩ answerEraseProfile)

/-- A selector write started: its copy is INVALID from the start of its erase (R167). -/
def State.startBootWrite (s : State) (value : Option ProfileNo) : State :=
  let pair := s.store.media.selector
  { s.drawn with store := { s.store with
      media := s.store.media.setSelector pair.target .invalid
      operation := .bootWrite value pair.target pair.nextGeneration s.now s.freeIx } }

/-- SET BOOT SLOT answered (R167). -/
def answerSetBootSlot (body : List Byte) (s : State) : Answer :=
  withOperands (parseBootSlot body) fun value =>
    unlessBusy s (.done .started [] (s.startBootWrite value))

/-- SET BOOT SLOT. -/
def execSetBootSlot (seq : Byte) (body : List Byte) (s : State) : Host.Outcome State Fault Refusal :=
  .next (s.serve ⟨seq, 0x57, body⟩ answerSetBootSlot)

/-- READ PROFILE answered: only a media slot is refused while an operation is in flight (R170). -/
def answerReadProfile (body : List Byte) (s : State) : Answer :=
  withOperands (parseReadProfile body) fun (source, start) =>
    match source with
    | .staging => .done .ok (readProfileContent s source start) s
    | .slot _ => unlessBusy s (.done .ok (readProfileContent s source start) s)

/-- READ PROFILE. -/
def execReadProfile (seq : Byte) (body : List Byte) (s : State) : Host.Outcome State Fault Refusal :=
  .next (s.serve ⟨seq, 0x58, body⟩ answerReadProfile)

end Sys2Proof.Machine
end

