-- ==== Sys2Proof/Machine/ResetEvents.lean ====
section
/-! DEFINITION. The events of the supply, of RST_N and of the clock's limit (R28, R189). -/

namespace Sys2Proof.Machine

/-- The pins outside changed. -/
def State.withPins (s : State) (pins : Pins) : State := { s with pins := pins }

/-- POWER_ON: the supply rises into its range, with the straps at these levels; a start-up reset with cause
POWER, held on while RST_N is low (R189). -/
def execPowerOn (rate1 rate0 : Level) (s : State) : Host.Outcome State Fault Refusal :=
  .next ((s.withPins { s.pins with supplyInRange := true, rate1 := rate1, rate0 := rate0 }).startUpReset
    .power)

/-- RST_N_ASSERT: RST_N has been low for 10 µs, with the straps at these levels. With the supply in range
it is a start-up reset with cause LINE; with the supply below its range the part is already held, and
only the pins change (R189). -/
def execRstNAssert (rate1 rate0 : Level) (s : State) : Host.Outcome State Fault Refusal :=
  if s.pins.rstN = .low then .next s
  else
    let t := s.withPins { s.pins with rstN := .low, rate1 := rate1, rate0 := rate0 }
    if s.pins.supplyInRange then .next (t.startUpReset .line) else .next t

/-- RST_N_RELEASE: the device clock and the start-up load start from the reset values that the block has
been held at (R189). -/
def execRstNRelease (s : State) : Host.Outcome State Fault Refusal :=
  .next (s.withPins { s.pins with rstN := .high })

/-- CLOCK_LIMIT: the clock holds its last value and would advance (R28). -/
def execClockLimit (s : State) : Host.Outcome State Fault Refusal :=
  .next (s.event fun s => if lastTime ≤ s.now then s.resampleStraps.startUpReset .clock else s)

/-- SUPPLY_BELOW_RANGE: every block is held at its reset values (R189). The reset cause is that of the most
recent start-up reset until the next one. -/
def execSupplyBelowRange (s : State) : Host.Outcome State Fault Refusal :=
  .next ((s.withPins { s.pins with supplyInRange := false }).startUpReset s.resetCause)

end Sys2Proof.Machine
end

