-- ==== Sys2Proof/Machine/ScheduleRequests.lean ====
section
/-! DEFINITION. The schedule requests: SUBMIT ACTION (R62 to R69), CANCEL ACTION and CANCEL GROUP (R80 to
R82), QUERY ACTION, LIST SCHEDULE and READ OUTCOMES (R87 to R89). -/

namespace Sys2Proof.Machine

/-- The absolute due time of a due field at a request time (R66). -/
def DueField.absoluteAt : DueField → Nat → Nat
  | .absolute time, _ => time
  | .relative duration, now => now + duration

/-- The absolute due time of a submission, none for a chained one. -/
def Submission.dueAt (x : Submission) (now : Nat) : Option Nat := x.due.map (·.absoluteAt now)

/-- Check 4 of R62: the first target line that is no output line. -/
def State.badTarget (s : State) (a : Action) : Option LineNo :=
  s.firstNotOutput (a.targets.map (·.line))

/-- Check 5 of R62: the guard line, when it is no sensed line. -/
def State.badGuard (s : State) (a : Action) : Option LineNo :=
  match a.guard with
  | some g => if s.lines[g.line].isSensed then none else some g.line
  | none => none

/-- Checks 6 and 7 of R62 (R66). -/
def badDue (due : Option Nat) (now : Nat) : Option Status :=
  match due with
  | some d =>
    if d < now + 50 then some .tooLate
    else if now + 4294967295 < d then some .outOfRange
    else none
  | none => none

/-- Check 8 of R62: a repeat with a WAIT guard, or with a hold not shorter than its period (R67). -/
def Action.repeatConflict (a : Action) : Bool :=
  match a.rep with
  | some r =>
    (match a.guard with
     | some g => decide (g.mode ≠ .skip)
     | none => false) ||
    (match a.hold with
     | some h => decide (r.period ≤ h)
     | none => false)
  | none => false

/-- Checks 9 and 10 of R62 (R67). -/
def Schedule.badChain (c : Schedule) (a : Action) : Option Status :=
  match a.chain with
  | some ch =>
    match c.find ch.predecessor with
    | some p => if p.action.rep.isSome then some .badChain else none
    | none => some .notFound
  | none => none

/-- Checks 2 to 10 of R62, in their order: the status and the addition of the first that fails. -/
def State.submitRefusal (s : State) (x : Submission) : Option (Status × List Byte) :=
  if (s.schedule.find x.action.id).isSome then some (.duplicateId, [])
  else if 48 ≤ s.schedule.entries.length then some (.scheduleFull, [])
  else match s.badTarget x.action with
  | some i => some (.badTarget, lineAddition i)
  | none => match s.badGuard x.action with
  | some i => some (.badGuard, lineAddition i)
  | none => match badDue (x.dueAt s.now) s.now with
  | some st => some (st, timeBytes s.now)
  | none =>
    if x.action.repeatConflict then some (.badValue, [])
    else match s.schedule.badChain x.action with
    | some st => some (st, [])
    | none => none

/-- The entry that an action becomes at its admission (R68). -/
def admittedEntry (a : Action) (due : Option Nat) (admission : Serial) : Entry :=
  ⟨a, admission, match due with | some d => .timed d | none => .waitingPred, 0, 0, none⟩

/-- The admission of an action, as one change (R68). -/
def State.admitted (s : State) (x : Submission) : State :=
  { s with
    schedule := { s.schedule with
      entries := s.schedule.entries ++ [admittedEntry x.action (x.dueAt s.now) s.schedule.counter]
      counter := s.schedule.counter + 1 } }.addRefs x.action.names

/-- SUBMIT ACTION answered (R62, R68). -/
def answerSubmit (body : List Byte) (s : State) : Answer :=
  withOperands (parseSubmit body) fun x =>
    match s.submitRefusal x with
    | some (st, addition) => .refuse st addition
    | none =>
      .done .ok (leBytes 4 s.schedule.counter.toNat ++ optTimeBytes (x.dueAt s.now)) (s.admitted x)

/-- SUBMIT ACTION. -/
def execSubmitAction (seq : Byte) (body : List Byte) (s : State) : Host.Outcome State Fault Refusal :=
  .next (s.serve ⟨seq, 0x30, body⟩ answerSubmit)

/-- The entries that left by the chain rule: those gone beyond the number cancelled. -/
def furtherLeft (before after : State) (cancelled : Nat) : Nat :=
  before.schedule.entries.length - after.schedule.entries.length - cancelled

/-- The claims of a class that a test picks, removed when a release flag is set (R81, R82, R124). -/
def State.releaseIf (s : State) (flag : Bool) (cls : ClaimClass) (test : Claim → Bool) : State :=
  if flag then s.dropClaims cls test else s

/-- The number of claims a release flag removes. -/
def State.releasedIf (s : State) (flag : Bool) (cls : ClaimClass) (test : Claim → Bool) : Nat :=
  if flag then s.countClaims cls test else 0

/-- CANCEL ACTION answered (R80, R81). -/
def answerCancelAction (body : List Byte) (s : State) : Answer :=
  withOperands (parseCancelAction body) fun (id, release) =>
    match s.schedule.find id with
    | none => .refuse .notFound []
    | some e =>
      let t := s.leave e (.cancelled .host)
      let test := fromOrigin (.action id)
      .done .ok (leBytes 2 e.applied ++ leBytes 2 e.skipped
          ++ [oneByte (furtherLeft s t 1), oneByte (t.releasedIf release .schedule test)])
        (t.releaseIf release .schedule test)

/-- CANCEL ACTION. -/
def execCancelAction (seq : Byte) (body : List Byte) (s : State) : Host.Outcome State Fault Refusal :=
  .next (s.serve ⟨seq, 0x31, body⟩ answerCancelAction)

/-- Whether a claim's origin is one of some action ids (R82). -/
def fromActions (ids : List Nat) (c : Claim) : Bool :=
  match c.origin with
  | .action id => ids.contains id
  | .none | .slot _ => false

/-- CANCEL GROUP answered (R82). -/
def answerCancelGroup (body : List Byte) (s : State) : Answer :=
  withOperands (parseCancelGroup body) fun (group, release) =>
    let t := (s.cancelGroup group .hostGroup).1
    let ids := (s.cancelGroup group .hostGroup).2
    .done .ok [oneByte ids.length, oneByte (furtherLeft s t ids.length),
        oneByte (t.releasedIf release .schedule (fromActions ids))]
      (t.releaseIf release .schedule (fromActions ids))

/-- CANCEL GROUP. -/
def execCancelGroup (seq : Byte) (body : List Byte) (s : State) : Host.Outcome State Fault Refusal :=
  .next (s.serve ⟨seq, 0x32, body⟩ answerCancelGroup)

/-- QUERY ACTION answered (R87). -/
def answerQueryAction (body : List Byte) (s : State) : Answer :=
  withOperands (parseQueryAction body) fun id =>
    match s.schedule.find id with
    | some e => .done .ok (queryContent e) s
    | none => .refuse .notFound []

/-- QUERY ACTION. -/
def execQueryAction (seq : Byte) (body : List Byte) (s : State) : Host.Outcome State Fault Refusal :=
  .next (s.serve ⟨seq, 0x33, body⟩ answerQueryAction)

/-- LIST SCHEDULE answered (R88). -/
def answerListSchedule (body : List Byte) (s : State) : Answer :=
  withOperands (parseListSchedule body) fun (start, count) =>
    .done .ok (listScheduleContent s.schedule start count) s

/-- LIST SCHEDULE. -/
def execListSchedule (seq : Byte) (body : List Byte) (s : State) : Host.Outcome State Fault Refusal :=
  .next (s.serve ⟨seq, 0x34, body⟩ answerListSchedule)

/-- The outcome list emptied (R89). -/
def State.clearOutcomes (s : State) : State :=
  { s with schedule := { s.schedule with outcomes := [] } }

/-- READ OUTCOMES answered (R89). -/
def answerReadOutcomes (body : List Byte) (s : State) : Answer :=
  withOperands (parseReadOutcomes body) fun clear =>
    .done .ok (readOutcomesContent s.schedule) (if clear then s.clearOutcomes else s)

/-- READ OUTCOMES. -/
def execReadOutcomes (seq : Byte) (body : List Byte) (s : State) : Host.Outcome State Fault Refusal :=
  .next (s.serve ⟨seq, 0x35, body⟩ answerReadOutcomes)

end Sys2Proof.Machine
end

