-- ==== Sys2Proof/Machine/SessionRequests.lean ====
section
/-! DEFINITION. The session and part requests: IDENTIFY, STATUS and RESET (R148, R188, R190), OPEN, RENEW,
CLOSE, FAILSAFE NOW and RECOVER (R134, R137, R140, R141, R146). -/

namespace Sys2Proof.Machine

/-- IDENTIFY answered (R188). -/
def answerIdentify (_ : List Byte) (s : State) : Answer := .done .ok (identifyContent s) s

/-- IDENTIFY. -/
def execIdentify (seq : Byte) (body : List Byte) (s : State) : Host.Outcome State Fault Refusal :=
  .next (s.serve ⟨seq, 0x01, body⟩ answerIdentify)

/-- STATUS answered (R148). -/
def answerStatus (_ : List Byte) (s : State) : Answer := .done .ok (statusContent s) s

/-- STATUS. -/
def execStatus (seq : Byte) (body : List Byte) (s : State) : Host.Outcome State Fault Refusal :=
  .next (s.serve ⟨seq, 0x02, body⟩ answerStatus)

/-- A start-up reset follows the transmission of the reply that is made ready next (R190). -/
def State.resetAfterReply (s : State) : State := { s with link := { s.link with resetPending := true } }

/-- RESET answered; the start-up reset follows at the end of its reply (R190). -/
def answerReset (_ : List Byte) (s : State) : Answer := .done .ok [] s.resetAfterReply

/-- RESET. -/
def execReset (seq : Byte) (body : List Byte) (s : State) : Host.Outcome State Fault Refusal :=
  .next (s.serve ⟨seq, 0x03, body⟩ answerReset)

/-- The content of the replies to OPEN and RECOVER: the session number and the lease (10.5). -/
def sessionContent (s : State) : List Byte :=
  leBytes 2 s.session.number.toNat ++ leBytes 2 s.session.lease

/-- OPEN answered (R134). -/
def answerOpen (body : List Byte) (s : State) : Answer :=
  withOperands (parseLease body) fun ms =>
    .done .ok (sessionContent (s.beginSession ms)) (s.beginSession ms)

/-- OPEN. -/
def execOpenSession (seq : Byte) (body : List Byte) (s : State) : Host.Outcome State Fault Refusal :=
  .next (s.serve ⟨seq, 0x08, body⟩ answerOpen)

/-- The session under a RENEW: the new lease, if one is carried, then the timer restarted (R137). -/
def Session.renew (m : Session) (lease : Option Nat) (now : Nat) : Session :=
  { m with lease := lease.getD m.lease }.startLease now

/-- The part under a RENEW. -/
def State.renew (s : State) (lease : Option Nat) : State :=
  { s with session := s.session.renew lease s.now }

/-- RENEW answered (R137). -/
def answerRenew (body : List Byte) (s : State) : Answer :=
  withOperands (parseRenew body) fun lease =>
    .done .ok (leBytes 2 (s.renew lease).session.lease ++ leBytes 4 (s.renew lease).remainingLease)
      (s.renew lease)

/-- RENEW. -/
def execRenew (seq : Byte) (body : List Byte) (s : State) : Host.Outcome State Fault Refusal :=
  .next (s.serve ⟨seq, 0x09, body⟩ answerRenew)

/-- CLOSE answered: flag value clear is mode KEEP, set is mode CLEAR (R140). -/
def answerClose (body : List Byte) (s : State) : Answer :=
  withOperands (flagOf? (byteAt body 0)) fun clear =>
    .done .ok (leBytes 2 s.session.number.toNat)
      (if clear then s.closeSession.clearAll else s.closeSession)

/-- CLOSE. -/
def execClose (seq : Byte) (body : List Byte) (s : State) : Host.Outcome State Fault Refusal :=
  .next (s.serve ⟨seq, 0x0A, body⟩ answerClose)

/-- FAILSAFE NOW answered (R141). -/
def answerFailsafeNow (_ : List Byte) (s : State) : Answer :=
  .done .ok (timeBytes s.now) (s.enterFailsafe .request)

/-- FAILSAFE NOW. -/
def execFailsafeNow (seq : Byte) (body : List Byte) (s : State) : Host.Outcome State Fault Refusal :=
  .next (s.serve ⟨seq, 0x0B, body⟩ answerFailsafeNow)

/-- The part under a RECOVER that is taken (R146). -/
def State.recover (s : State) (ms : Nat) : State := s.dropFailsafeClaims.beginSession ms

/-- RECOVER answered (R146). -/
def answerRecover (body : List Byte) (s : State) : Answer :=
  withOperands (parseLease body) fun ms =>
    if s.session.safeN.asserted then .refuse .safeAsserted []
    else .done .ok (sessionContent (s.recover ms)) (s.recover ms)

/-- RECOVER. -/
def execRecover (seq : Byte) (body : List Byte) (s : State) : Host.Outcome State Fault Refusal :=
  .next (s.serve ⟨seq, 0x0C, body⟩ answerRecover)

end Sys2Proof.Machine
end

