-- ==== Sys2Proof/Machine/StoreEvents.lean ====
section
/-! DEFINITION. The completions of the store operations (R162, R164, R166, R167) and of the start-up load
(R171, R149). -/

namespace Sys2Proof.Machine

/-- A commit ended, with the result and the condition of its target copy: the staging state becomes IDLE
with the list emptied (R162). -/
def State.endCommit (s : State) (p : ProfileNo) (copy : CopyNo) (c : Copy (List ProfileRecord))
    (r : StoreResult) : State :=
  { s with store := { s.store with
      media := s.store.media.setCopy p copy c
      staging := .idle } }.finishStore .commit (some p) r

/-- COMMIT_COMPLETION: with the records verified the target copy is VALID at the end of the marker step;
otherwise the commit ends with the verify step and the copy stays INVALID (R162). -/
def execCommitCompletion (verified : Bool) (s : State) : Host.Outcome State Fault Refusal :=
  .next (s.event fun s =>
    match s.store.operation with
    | .committing p copy generation started _ =>
      let rs := s.store.staging.records
      if verified then
        if started + commitTime rs.length ≤ s.now then s.endCommit p copy (.valid generation rs) .ok
        else s
      else if started + commitFaultTime rs.length ≤ s.now then s.endCommit p copy .invalid .storeFault
      else s
    | .none | .loading _ _ | .erasing _ _ _ _ | .bootWrite _ _ _ _ _ => s)

/-- LOAD_COMPLETION: the whole profile is applied when its check values match (R164). -/
def execLoadCompletion (checked : Bool) (s : State) : Host.Outcome State Fault Refusal :=
  .next (s.event fun s =>
    match s.store.operation with
    | .loading p started =>
      match s.store.media.slots[p].loadable with
      | some (_, _, rs) =>
        if started + readTime rs.length ≤ s.now then
          if checked then (s.applyProfile rs).finishStore .load (some p) .ok
          else s.finishStore .load (some p) .corrupt
        else s
      | none => s
    | .none | .committing _ _ _ _ _ | .erasing _ _ _ _ | .bootWrite _ _ _ _ _ => s)

/-- The first step of an erase ended: the first copy is ERASED, and the second is being erased (R166). -/
def State.endEraseStep (s : State) (p : ProfileNo) (first : CopyNo) (started : Nat) : State :=
  { s with store := { s.store with
      media := (s.store.media.setCopy p first .erased).setCopy p first.other .invalid
      operation := .erasing p first started true } }

/-- ERASE_FIRST_STEP_END (R166). -/
def execEraseFirstStepEnd (s : State) : Host.Outcome State Fault Refusal :=
  .next (s.event fun s =>
    match s.store.operation with
    | .erasing p first started false =>
      if started + eraseStepTime ≤ s.now then s.endEraseStep p first started else s
    | .erasing _ _ _ true | .none | .committing _ _ _ _ _ | .loading _ _ | .bootWrite _ _ _ _ _ => s)

/-- An erase ended: both copies are ERASED (R166). -/
def State.endErase (s : State) (p : ProfileNo) (first : CopyNo) : State :=
  { s with store := { s.store with
      media := s.store.media.setCopy p first.other .erased } }.finishStore .erase (some p) .ok

/-- ERASE_COMPLETION (R166). -/
def execEraseCompletion (s : State) : Host.Outcome State Fault Refusal :=
  .next (s.event fun s =>
    match s.store.operation with
    | .erasing p first started true =>
      if started + 2 * eraseStepTime ≤ s.now then s.endErase p first else s
    | .erasing _ _ _ false | .none | .committing _ _ _ _ _ | .loading _ _ | .bootWrite _ _ _ _ _ => s)

/-- A selector write ended, with the result and the condition of its copy (R167). -/
def State.endBootWrite (s : State) (value : Option ProfileNo) (copy : CopyNo)
    (c : Copy (Option ProfileNo)) (r : StoreResult) : State :=
  { s with store := { s.store with
      media := s.store.media.setSelector copy c } }.finishStore .setBootSlot value r

/-- BOOT_WRITE_COMPLETION: at 10 ms the copy is VALID with the value, or at 9 ms the write ends with the
copy INVALID (R167). -/
def execBootWriteCompletion (verified : Bool) (s : State) : Host.Outcome State Fault Refusal :=
  .next (s.event fun s =>
    match s.store.operation with
    | .bootWrite value copy generation started _ =>
      if started + bootWriteTime verified ≤ s.now then
        if verified then s.endBootWrite value copy (.valid generation value) .ok
        else s.endBootWrite value copy .invalid .storeFault
      else s
    | .none | .committing _ _ _ _ _ | .loading _ _ | .erasing _ _ _ _ => s)

/-- The boot result and the boot slot recorded (R171). -/
def State.withBoot (s : State) (r : BootResult) : State :=
  { s with store := { s.store with bootResult := r, bootSlot := s.store.media.bootValue } }

/-- The boot result when no profile is read: the selector reads NONE, or names a slot that is EMPTY or
CORRUPT (R171). -/
def Media.unreadResult (m : Media) : BootResult :=
  match m.bootValue with
  | none => .none
  | some p => if m.slots[p].copy0.isErased && m.slots[p].copy1.isErased then .empty else .corrupt

/-- The end of the start-up load: the profile that was read is applied when it checks, and the result is
recorded (R171). -/
def State.endStartup (s : State) (checked : Bool) : State :=
  match s.store.media.bootProfile with
  | some rs => if checked then (s.applyProfile rs).withBoot .loaded else s.withBoot .corrupt
  | none => s.withBoot s.store.media.unreadResult

/-- The Session Monitor's check of SAFE_N at the end of the start-up load (R149). -/
def State.startupSafeNCheck (s : State) : State :=
  if s.session.safeN.asserted then s.enterFailsafe .line else s

/-- STARTUP_LOAD_COMPLETION; `checked` matters only when a profile was read (R171, R149). -/
def execStartupLoadCompletion (checked : Bool) (s : State) : Host.Outcome State Fault Refusal :=
  .next (s.event fun s =>
    if s.starting && decide (s.store.media.startupTime ≤ s.now) then
      (s.endStartup checked).startupSafeNCheck
    else s)

end Sys2Proof.Machine
end

