-- ==== Sys2Proof/Machine/TimedEvents.lean ====
section
/-! DEFINITION. The timed events of the scheduler, the triggers and the lease: DUE_ARRIVAL (R72, R73),
GUARD_DEADLINE (R95), FIRE_TIME (R117), HOLDOFF_END (R119), WARNING_ARRIVAL (R138) and LEASE_EXPIRY (R139). -/

namespace Sys2Proof.Machine

/-- The first entry in schedule order whose due time has come, with that time (R73). -/
def Schedule.nextDue (c : Schedule) (now : Nat) : Option (Entry × Nat) :=
  (scheduleOrder c.entries).findSome? fun e => (e.dueBy now).map fun due => (e, due)

/-- DUE_ARRIVAL (R72). -/
def execDueArrival (s : State) : Host.Outcome State Fault Refusal :=
  .next (s.event fun s =>
    match s.schedule.nextDue s.now with
    | some (e, due) => s.arrive e due
    | none => s)

/-- The first entry in schedule order whose guard deadline has come (R95). -/
def Schedule.nextDeadline (c : Schedule) (now : Nat) : Option Entry :=
  (scheduleOrder c.entries).find? (·.deadlineBy now)

/-- GUARD_DEADLINE: the entry leaves EXPIRED (R95). -/
def execGuardDeadline (s : State) : Host.Outcome State Fault Refusal :=
  .next (s.event fun s =>
    match s.schedule.nextDeadline s.now with
    | some e => s.leave e .expired
    | none => s)

/-- FIRE_TIME: the PENDING slots whose fire time has come fire, in slot order (R117). -/
def execFireTime (s : State) : Host.Outcome State Fault Refusal :=
  .next (s.event fun s => (List.finRange 16).foldl State.fireIfDue s)

/-- HOLDOFF_END: the slot returns to ARMED (R119). -/
def execHoldoffEnd (slot : SlotNo) (s : State) : Host.Outcome State Fault Refusal :=
  .next (s.event fun s =>
    if s.slots[slot].holdoffOverBy s.now then
      s.setSlot slot { s.slots[slot] with phase := .armed }
    else s)

/-- Whether a time that may be absent has come. -/
def reached (t : Option Nat) (now : Nat) : Bool :=
  match t with
  | some t => decide (t ≤ now)
  | none => false

/-- Whether the session is ACTIVE. -/
def Session.isActive (m : Session) : Bool := decide (m.state = .active)

/-- The remaining time a LEASE_WARNING carries, in ms rounded down (R138). -/
def warningRemaining (lease : Nat) : Nat := lease * 250 / 1000

/-- The warning given and disarmed (R138). -/
def State.warn (s : State) : State :=
  { s with session := { s.session with warning := none } }.enqueue
    (.leaseWarning (warningRemaining s.session.lease))

/-- WARNING_ARRIVAL (R138). -/
def execWarningArrival (s : State) : Host.Outcome State Fault Refusal :=
  .next (s.event fun s =>
    if s.session.isActive && reached s.session.warning s.now then s.warn else s)

/-- LEASE_EXPIRY: failsafe entry with cause LEASE (R139). -/
def execLeaseExpiry (s : State) : Host.Outcome State Fault Refusal :=
  .next (s.event fun s =>
    if s.session.isActive && reached s.session.deadline s.now then s.enterFailsafe .lease else s)

end Sys2Proof.Machine
end

