-- ==== Sys2Proof/Machine/TriggerRequests.lean ====
section
/-! DEFINITION. The trigger requests: DEFINE, ARM, DISARM, DELETE and READ TRIGGER (R112, R122 to R126). -/

namespace Sys2Proof.Machine

/-- Checks 4 and 5 of R112: the watched line, or else the qualifier line, when it is no sensed line. -/
def State.badWatch (s : State) (d : TriggerDef) : Option LineNo :=
  if !s.lines[d.watched].isSensed then some d.watched
  else match d.qualifier with
    | some q => if s.lines[q.line].isSensed then none else some q.line
    | none => none

/-- Checks 2 to 5 of R112, in their order: the status and the addition of the first that fails. -/
def State.defineRefusal (s : State) (k : SlotNo) (d : TriggerDef) : Option (Status × List Byte) :=
  if s.slots[k].running then some (.triggerBusy, [])
  else match s.firstNotOutput (d.targets.map (·.line)) with
  | some i => some (.badTarget, lineAddition i)
  | none => match s.badWatch d with
  | some i => some (.badGuard, lineAddition i)
  | none => none

/-- A slot that has just been given a definition (R112). -/
def Slot.defined (d : TriggerDef) : Slot := ⟨some d, .idle, 0, 0, 0⟩

/-- A definition put into a slot, as one change: the references of the old one go and those of the new
one come (R112, R10). -/
def State.define (s : State) (k : SlotNo) (d : TriggerDef) : State :=
  ((s.dropRefs s.slots[k].names).addRefs d.names).setSlot k (.defined d)

/-- DEFINE TRIGGER answered (R112). -/
def answerDefineTrigger (body : List Byte) (s : State) : Answer :=
  withOperands (parseTriggerDef body) fun (k, d) =>
    match s.defineRefusal k d with
    | some (st, addition) => .refuse st addition
    | none => .done .ok [((s.define k d).slots[k]).code] (s.define k d)

/-- DEFINE TRIGGER. -/
def execDefineTrigger (seq : Byte) (body : List Byte) (s : State) : Host.Outcome State Fault Refusal :=
  .next (s.serve ⟨seq, 0x40, body⟩ answerDefineTrigger)

/-- A DEFINED slot armed; any other slot left as it is (R123). -/
def Slot.arm (slot : Slot) : Slot :=
  match slot.definition, slot.phase with
  | some _, .idle => { slot with phase := .armed }
  | _, _ => slot

/-- ARM TRIGGER answered (R123). -/
def answerArmTrigger (body : List Byte) (s : State) : Answer :=
  withOperands (parseSlot body) fun k =>
    .done .ok [s.slots[k].arm.code] (s.setSlot k s.slots[k].arm)

/-- ARM TRIGGER. -/
def execArmTrigger (seq : Byte) (body : List Byte) (s : State) : Host.Outcome State Fault Refusal :=
  .next (s.serve ⟨seq, 0x41, body⟩ answerArmTrigger)

/-- Whether a DISARM or DELETE TRIGGER removes the claims of a slot: only of a non-EMPTY one (R124, R125). -/
def Slot.releases (slot : Slot) (flag : Bool) : Bool := flag && slot.definition.isSome

/-- DISARM TRIGGER answered (R124). -/
def answerDisarmTrigger (body : List Byte) (s : State) : Answer :=
  withOperands (parseSlotFlag body) fun (k, release) =>
    let flag := s.slots[k].releases release
    .done .ok [s.slots[k].standDown.code, oneByte (s.releasedIf flag .trigger (fromOrigin (.slot k)))]
      ((s.setSlot k s.slots[k].standDown).releaseIf flag .trigger (fromOrigin (.slot k)))

/-- DISARM TRIGGER. -/
def execDisarmTrigger (seq : Byte) (body : List Byte) (s : State) : Host.Outcome State Fault Refusal :=
  .next (s.serve ⟨seq, 0x42, body⟩ answerDisarmTrigger)

/-- A slot deleted, as one change: its claims, its references, its counters and its definition go (R125). -/
def State.delete (s : State) (k : SlotNo) : State :=
  ((s.releaseIf (s.slots[k].releases true) .trigger (fromOrigin (.slot k))).dropRefs
    s.slots[k].names).setSlot k .empty

/-- DELETE TRIGGER answered (R125). -/
def answerDeleteTrigger (body : List Byte) (s : State) : Answer :=
  withOperands (parseSlot body) fun k =>
    .done .ok [Slot.empty.code,
        oneByte (s.releasedIf (s.slots[k].releases true) .trigger (fromOrigin (.slot k)))]
      (s.delete k)

/-- DELETE TRIGGER. -/
def execDeleteTrigger (seq : Byte) (body : List Byte) (s : State) : Host.Outcome State Fault Refusal :=
  .next (s.serve ⟨seq, 0x43, body⟩ answerDeleteTrigger)

/-- READ TRIGGER answered: with the clear flag the counters are cleared after the reply is taken (R126). -/
def answerReadTrigger (body : List Byte) (s : State) : Answer :=
  withOperands (parseSlotFlag body) fun (k, clear) =>
    .done .ok (readTriggerContent k s.slots[k] s.now)
      (if clear then s.setSlot k s.slots[k].clearCounters else s)

/-- READ TRIGGER. -/
def execReadTrigger (seq : Byte) (body : List Byte) (s : State) : Host.Outcome State Fault Refusal :=
  .next (s.serve ⟨seq, 0x44, body⟩ answerReadTrigger)

end Sys2Proof.Machine
end

