-- ==== Sys2Proof/Machine/Dispatch.lean ====
section
/-! DEFINITION. The meaning of each command: one arm per row of spec/opcode_table.json. -/

namespace Sys2Proof.Machine

def exec (i : Instr) (s : State) : Host.Outcome State Fault Refusal :=
  match i with
  | .identify seq body => Sys2Proof.Machine.execIdentify seq body s
  | .status seq body => Sys2Proof.Machine.execStatus seq body s
  | .reset seq body => Sys2Proof.Machine.execReset seq body s
  | .openSession seq body => Sys2Proof.Machine.execOpenSession seq body s
  | .renew seq body => Sys2Proof.Machine.execRenew seq body s
  | .close seq body => Sys2Proof.Machine.execClose seq body s
  | .failsafeNow seq body => Sys2Proof.Machine.execFailsafeNow seq body s
  | .recover seq body => Sys2Proof.Machine.execRecover seq body s
  | .configureLines seq body => Sys2Proof.Machine.execConfigureLines seq body s
  | .setBase seq body => Sys2Proof.Machine.execSetBase seq body s
  | .setFailsafe seq body => Sys2Proof.Machine.execSetFailsafe seq body s
  | .pinLines seq body => Sys2Proof.Machine.execPinLines seq body s
  | .unpinLines seq body => Sys2Proof.Machine.execUnpinLines seq body s
  | .readLevels seq body => Sys2Proof.Machine.execReadLevels seq body s
  | .readLine seq body => Sys2Proof.Machine.execReadLine seq body s
  | .setFilterClasses seq body => Sys2Proof.Machine.execSetFilterClasses seq body s
  | .readJournal seq body => Sys2Proof.Machine.execReadJournal seq body s
  | .releaseJournal seq body => Sys2Proof.Machine.execReleaseJournal seq body s
  | .clearJournal seq body => Sys2Proof.Machine.execClearJournal seq body s
  | .setJournal seq body => Sys2Proof.Machine.execSetJournal seq body s
  | .submitAction seq body => Sys2Proof.Machine.execSubmitAction seq body s
  | .cancelAction seq body => Sys2Proof.Machine.execCancelAction seq body s
  | .cancelGroup seq body => Sys2Proof.Machine.execCancelGroup seq body s
  | .queryAction seq body => Sys2Proof.Machine.execQueryAction seq body s
  | .listSchedule seq body => Sys2Proof.Machine.execListSchedule seq body s
  | .readOutcomes seq body => Sys2Proof.Machine.execReadOutcomes seq body s
  | .defineTrigger seq body => Sys2Proof.Machine.execDefineTrigger seq body s
  | .armTrigger seq body => Sys2Proof.Machine.execArmTrigger seq body s
  | .disarmTrigger seq body => Sys2Proof.Machine.execDisarmTrigger seq body s
  | .deleteTrigger seq body => Sys2Proof.Machine.execDeleteTrigger seq body s
  | .readTrigger seq body => Sys2Proof.Machine.execReadTrigger seq body s
  | .beginProfile seq body => Sys2Proof.Machine.execBeginProfile seq body s
  | .appendRecord seq body => Sys2Proof.Machine.execAppendRecord seq body s
  | .capture seq body => Sys2Proof.Machine.execCapture seq body s
  | .abandonProfile seq body => Sys2Proof.Machine.execAbandonProfile seq body s
  | .commitProfile seq body => Sys2Proof.Machine.execCommitProfile seq body s
  | .loadProfile seq body => Sys2Proof.Machine.execLoadProfile seq body s
  | .eraseProfile seq body => Sys2Proof.Machine.execEraseProfile seq body s
  | .setBootSlot seq body => Sys2Proof.Machine.execSetBootSlot seq body s
  | .readProfile seq body => Sys2Proof.Machine.execReadProfile seq body s
  | .unknownRequest seq kind body => Sys2Proof.Machine.execUnknownRequest seq kind body s
  | .validFrameArrival seq kind body => Sys2Proof.Machine.execValidFrameArrival seq kind body s
  | .ack seq body => Sys2Proof.Machine.execAck seq body s
  | .crcError => Sys2Proof.Machine.execCrcError s
  | .lenOutOfRange len => Sys2Proof.Machine.execLenOutOfRange len s
  | .frameGapTimeout => Sys2Proof.Machine.execFrameGapTimeout s
  | .characterFault => Sys2Proof.Machine.execCharacterFault s
  | .overrun character => Sys2Proof.Machine.execOverrun character s
  | .lineBreak => Sys2Proof.Machine.execLineBreak s
  | .lineBreakEnd => Sys2Proof.Machine.execLineBreakEnd s
  | .replyTransmissionEnd => Sys2Proof.Machine.execReplyTransmissionEnd s
  | .noticeTransmissionEnd => Sys2Proof.Machine.execNoticeTransmissionEnd s
  | .retransmissionTime => Sys2Proof.Machine.execRetransmissionTime s
  | .rawChange line circuit => Sys2Proof.Machine.execRawChange line circuit s
  | .qualification line => Sys2Proof.Machine.execQualification line s
  | .claimExpiry line cls => Sys2Proof.Machine.execClaimExpiry line cls s
  | .dueArrival => Sys2Proof.Machine.execDueArrival s
  | .guardDeadline => Sys2Proof.Machine.execGuardDeadline s
  | .fireTime => Sys2Proof.Machine.execFireTime s
  | .holdoffEnd slot => Sys2Proof.Machine.execHoldoffEnd slot s
  | .warningArrival => Sys2Proof.Machine.execWarningArrival s
  | .leaseExpiry => Sys2Proof.Machine.execLeaseExpiry s
  | .safeNChange level => Sys2Proof.Machine.execSafeNChange level s
  | .safeNQualification => Sys2Proof.Machine.execSafeNQualification s
  | .commitCompletion verified => Sys2Proof.Machine.execCommitCompletion verified s
  | .loadCompletion checked => Sys2Proof.Machine.execLoadCompletion checked s
  | .eraseFirstStepEnd => Sys2Proof.Machine.execEraseFirstStepEnd s
  | .eraseCompletion => Sys2Proof.Machine.execEraseCompletion s
  | .bootWriteCompletion verified => Sys2Proof.Machine.execBootWriteCompletion verified s
  | .startupLoadCompletion checked => Sys2Proof.Machine.execStartupLoadCompletion checked s
  | .powerOn rate1 rate0 => Sys2Proof.Machine.execPowerOn rate1 rate0 s
  | .rstNAssert rate1 rate0 => Sys2Proof.Machine.execRstNAssert rate1 rate0 s
  | .rstNRelease => Sys2Proof.Machine.execRstNRelease s
  | .clockLimit => Sys2Proof.Machine.execClockLimit s
  | .characterReceived character => Sys2Proof.Machine.execCharacterReceived character s
  | .supplyBelowRange => Sys2Proof.Machine.execSupplyBelowRange s

end Sys2Proof.Machine
end

