-- ==== Sys2Proof/Machine/Time.lean ====
section
/-! DEFINITION. What the part does of itself when no command waits (assumption 1): the events whose time
has come, of which one is taken, in an order that the spec leaves free (assumption 3), and the advance
of the device clock when none has (R27, R30). -/

namespace Sys2Proof.Machine

/-- The lines whose pin the sample of this device time, not yet taken, finds at another level than the
sample before (R30). A line's sample reads the drive that the last advance of the clock found. -/
def dueSamples (s : State) : List Instr :=
  (List.finRange 40).filterMap fun i =>
    match s.lines[i].filter with
    | some f =>
      if f.sampled || f.sample s.lines[i].circuit == f.raw then none else some (.rawChange i s.lines[i].circuit)
    | none => none

/-- The lines whose settle is complete (R36). -/
def dueQualifications (s : State) : List Instr :=
  (List.finRange 40).filterMap fun i =>
    match s.lines[i].filter with
    | some f =>
      match f.settle with
      | some p => if p.complete s.now then some (.qualification i) else none
      | none => none
    | none => none

/-- The claims whose expiry has come (R8, R18). -/
def dueExpiries (s : State) : List Instr :=
  (List.finRange 40).flatMap fun i =>
    [ClaimClass.pin, .trigger, .schedule].filterMap fun cls =>
      if s.lines[i].holds cls (·.expiredBy s.now) then some (.claimExpiry i cls) else none

/-- SAFE_N: a sample of this device time, not yet taken, at another level than the sample before, and its
qualification (R142). -/
def dueSafeN (s : State) : List Instr :=
  (if s.session.safeN.sampled || s.pins.safeN == s.session.safeN.raw then []
    else [.safeNChange s.pins.safeN])
  ++ (if s.session.safeN.complete s.now then [.safeNQualification] else [])

/-- The schedule's times (R72, R95). -/
def dueSchedule (s : State) : List Instr :=
  (if (s.schedule.nextDue s.now).isSome then [.dueArrival] else [])
  ++ (if (s.schedule.nextDeadline s.now).isSome then [.guardDeadline] else [])

/-- The trigger slots' times (R117, R119). -/
def dueTriggers (s : State) : List Instr :=
  (if (List.finRange 16).any (fun k => s.slots[k].fireDueBy s.now) then [.fireTime] else [])
  ++ (List.finRange 16).filterMap fun k =>
      if s.slots[k].holdoffOverBy s.now then some (.holdoffEnd k) else none

/-- The lease's times (R138, R139). -/
def dueLease (s : State) : List Instr :=
  if s.session.isActive then
    (if reached s.session.warning s.now then [.warningArrival] else [])
    ++ (if reached s.session.deadline s.now then [.leaseExpiry] else [])
  else []

/-- The end of the store operation in flight (R161 to R167). Whether the media has failed the operation is
a free value (assumption 4). -/
def dueStore (s : State) : List Instr :=
  match s.store.operation with
  | .none => []
  | .committing _ _ _ started draw =>
    let n := s.store.staging.records.length
    if Config.mediaFault draw then
      if started + commitFaultTime n ≤ s.now then [.commitCompletion false] else []
    else if started + commitTime n ≤ s.now then [.commitCompletion true] else []
  | .loading p started =>
    match s.store.media.slots[p].loadable with
    | some (_, _, rs) =>
      if started + readTime rs.length ≤ s.now then [.loadCompletion !Config.mediaFault s.freeIx] else []
    | none => []
  | .erasing _ _ started second =>
    if second then
      if started + 2 * eraseStepTime ≤ s.now then [.eraseCompletion] else []
    else if started + eraseStepTime ≤ s.now then [.eraseFirstStepEnd] else []
  | .bootWrite _ _ _ started draw =>
    if started + bootWriteTime (!Config.mediaFault draw) ≤ s.now then
      [.bootWriteCompletion !Config.mediaFault draw]
    else []

/-- The end of the start-up load (R171). -/
def dueStartup (s : State) : List Instr :=
  if s.starting && decide (s.store.media.startupTime ≤ s.now) then
    [.startupLoadCompletion !Config.mediaFault s.freeIx]
  else []

/-- Whether the transmission of a frame ends now: one character is 10 bit times (R172). An end that falls
between two values of the clock is taken at the one before it or at the one after it (assumption 10). -/
def State.txOver (s : State) (f : Frame) (since : Nat) : Bool :=
  s.link.sentBy f since s.now &&
    (decide (since + s.link.rate.charactersTime f.size < s.now) ||
      decide (f.size * 10000000 % s.link.rate.baud = 0) || decide (Config.choice s.freeIx % 2 = 0))

/-- The transmitter's times (R181, R183). -/
def dueTransmitter (s : State) : List Instr :=
  (match s.link.tx with
   | .idle => []
   | .reply f since => if s.txOver f since then [.replyTransmissionEnd] else []
   | .notice f since => if s.txOver f since then [.noticeTransmissionEnd] else [])
  ++ (if s.link.retransmitBy s.now then [.retransmissionTime] else [])

/-- The receiver's times: a gap in a frame (R176), and the oldest waiting request, taken when no request
is being answered (R179). -/
def dueReceiver (s : State) : List Instr :=
  (if s.link.gapOver s.now then [.frameGapTimeout] else [])
  ++ (match s.link.waiting with
      | f :: _ => if s.link.answering then [] else [Instr.ofFrame f]
      | [] => [])

/-- The events whose time has come; none while the part is held in reset (R189). -/
def dueEvents (s : State) : List Instr :=
  if s.held then []
  else dueSamples s ++ dueQualifications s ++ dueExpiries s ++ dueSafeN s ++ dueSchedule s
    ++ dueTriggers s ++ dueLease s ++ dueStore s ++ dueStartup s ++ dueTransmitter s ++ dueReceiver s

/-- A line at an advance of the clock: its own drive is latched for the sample that the advance makes,
which has not been taken yet (R30). -/
def Line.latch (l : Line) : Line :=
  match l.filter with
  | some f => { l with filter := some { f with drive := l.ownDrive, sampled := false } }
  | none => l

/-- SAFE_N at an advance of the clock: the sample that the advance makes has not been taken yet (R142). -/
def State.latchSafeN (s : State) : State := s.withSafeN { s.session.safeN with sampled := false }

/-- The boot slot read by the start-up load once its first step is over (R171, R188; assumption 11). -/
def State.readSelector (s : State) : State :=
  if s.starting && decide (examineTime ≤ s.now) then
    { s with store := { s.store with bootSlot := s.store.media.bootValue } }
  else s

/-- The device clock advances by 1 µs (R27); it is held at 0 while the part is held in reset (R189). -/
def State.tick (s : State) : State :=
  if s.held then s
  else ({ s with now := s.now + 1 }.mapLines fun _ l => l.latch).latchSafeN.readSelector

/-- What the part does of itself next: one of the events whose time has come, taken after a free value
is drawn; the clock's limit, when the clock holds its last value; or none, when the clock only advances. -/
def State.nextEvent (s : State) : Option (Instr × State) :=
  match dueEvents s with
  | [] => if lastTime ≤ s.now then some (.clockLimit, s) else none
  | e :: es => some ((e :: es).getD (Config.choice s.freeIx % (e :: es).length) e, s.drawn)

end Sys2Proof.Machine
end

