-- ==== Sys2Proof/Machine/Step.lean ====
section
/-! DEFINITION. One step: the command at the front of the queue, or, with no command waiting, what the part
does of itself. -/

namespace Sys2Proof.Machine

/-- The command at the front of the queue is taken, and `exec` gives its effect on the rest. With an empty
queue one event whose time has come is taken, or else the device clock advances (assumption 1). -/
def step (s : State) : Host.Outcome State Fault Refusal :=
  match s.pending with
  | c :: rest => exec c { s with pending := rest }
  | [] =>
    match s.nextEvent with
    | some (e, t) => exec e t
    | none => .next s.tick

/-- The state with the command that a word spells put at the front of its queue; spec/opcode_table.json
gives no row any bits, so no word spells one and the state is unchanged. -/
def State.withFetchWord (s : State) (nbits w : Nat) : State :=
  match decodeTableWord nbits w with
  | some i => { s with pending := i :: s.pending }
  | none => s

end Sys2Proof.Machine
end

