-- ==== Sys2Proof/Safety.lean ====
section
/-! DEFINITION. What the statements speak of: a link that can take a request at once, what taking one does
to the link, and the laws that every state the part can be in keeps: R4 and R33 of the lines, the bounds
of the lists and counters, R23, R85 and R127 of failsafe, and R10 of the references. -/

namespace Sys2Proof.Instr
open Sys2Proof.Machine

/-- The session states in which a request is not taken, with the status that refuses it (the table of R147);
an event and a frame of an unknown kind are in no row of it. -/
def sessionRefusal (c : Instr) (st : SessionState) : Option Status :=
  match c with
  | .identify _ _ | .status _ _ | .reset _ _ | .readLevels _ _ | .readLine _ _ | .readJournal _ _
  | .releaseJournal _ _ | .readTrigger _ _ | .queryAction _ _ | .listSchedule _ _
  | .readOutcomes _ _ | .readProfile _ _ => none
  | .openSession _ _ =>
    match st with
    | .noSession => none
    | .active => some .alreadyOpen
    | .failsafe => some .failsafe
  | .recover _ _ => if st = .failsafe then none else some .noSession
  | _ =>
    match st with
    | .noSession => some .noSession
    | .active => none
    | .failsafe => some .failsafe

/-- The requests that change what a LOAD sets, which R163 lists as refused while one is in flight. -/
def refusedLoading : Instr → Bool
  | .configureLines _ _ | .setBase _ _ | .setFailsafe _ _ | .pinLines _ _ | .unpinLines _ _
  | .setFilterClasses _ _ | .setJournal _ _ | .submitAction _ _ | .cancelAction _ _
  | .cancelGroup _ _ | .defineTrigger _ _ | .armTrigger _ _ | .disarmTrigger _ _
  | .deleteTrigger _ _ => true
  | .close _ body => body == [1]
  | _ => false

/-- Whether a command is a request of one of the 40 kinds of 10.2. -/
def isKnownRequest (c : Instr) : Bool :=
  match c with
  | .unknownRequest _ _ _ => false
  | _ => c.frame?.isSome

/-- The commands that act on the part, or on the pins outside it, even while it is held in reset. -/
def actsWhileHeld : Instr → Bool
  | .powerOn _ _ | .rstNAssert _ _ | .rstNRelease | .supplyBelowRange | .rawChange _ _
  | .safeNChange _ => true
  | _ => false

end Sys2Proof.Instr

namespace Sys2Proof.Machine

/-! ### The link and its requests -/

/-- The transmitter has nothing to choose: TXD is busy, or neither a reply nor a notice is ready (R181). -/
def Link.settled (l : Link) : Prop := l.tx = .idle → l.reply = none ∧ l.readyNotice = none

/-- The receiver takes characters: no line break is present, and the time after the last character fault or
line break in which no character can come is over (R176, R187). -/
abbrev State.hearing (s : State) : Prop := s.link.breakSince = none ∧ s.link.deafUntil ≤ s.now

/-- The microseconds after a character fault or a line break before a character can come: one bit time of RXD
high and the nine bit times to a stop bit (R172, R176, R187). -/
def Rate.deafTime : Rate → Nat
  | .baud115200 => 86
  | .baud460800 => 21
  | .baud1000000 => 10
  | .baud3000000 => 3

/-- The microseconds before a character fault at which its start bit can have come: one character time, rounded
up (R172, R187). -/
def Rate.faultSpan : Rate → Nat
  | .baud115200 => 87
  | .baud460800 => 22
  | .baud1000000 => 10
  | .baud3000000 => 4

/-- A request can be taken now, whatever TXD carries beside a reply: the part is not held in reset, no reply
is ready, and the request is the oldest waiting frame, or arrives with none waiting (R177, R179). -/
abbrev State.takes (s : State) (f : Frame) : Prop :=
  s.held = false ∧ f.body.length ≤ 248 ∧ s.link.breakSince = none ∧
    (s.link.waiting = [] ∧ s.link.deafUntil ≤ s.now ∨ s.link.waiting.head? = some f) ∧
    s.link.reply = none

/-- The link can take this request at once and begin its reply: the request can be taken now, TXD is idle and
no notice is due. `WaitingAndDuplicateRequests` tells of a TXD that carries a notice. -/
abbrev State.free (s : State) (f : Frame) : Prop :=
  s.takes f ∧ s.link.tx = .idle ∧ s.link.inFlight.due = false

/-- The link can take this request at once, and it is no duplicate (R180). -/
abbrev State.quiet (s : State) (f : Frame) : Prop := s.free f ∧ s.link.cached f = none

/-- The session after a valid frame's arrival at this time: in ACTIVE the lease timer restarts and the warning
is armed again (R135, R136, R138). -/
def Session.renewedAt (m : Session) (now : Nat) : Session :=
  if m.state = .active then
    { m with
      deadline := if m.lease = 0 then none else some (now + m.lease * 1000)
      warning := if m.lease < 100 then none else some (now + m.lease * 750) }
  else m

/-- The state in which a request taken at once is checked and answered: it has been taken out of the frames
waiting, or it has arrived, which in ACTIVE renews the lease, and has been taken at that time (R136, R177,
R179). -/
def State.received (s : State) (f : Frame) : State :=
  if s.link.waiting.head? = some f then
    { s with link := { s.link with waiting := s.link.waiting.tail } }
  else
    { s with
      session := s.session.renewedAt s.now
      link := { s.link with framer := .hunting, rxd := .high s.now } }

/-- The part after it has taken a request at once and TXD has begun this reply (R181), with nothing else
changed. -/
def State.replying (s : State) (f reply : Frame) : State :=
  { s.received f with
    link := { (s.received f).link with tx := .reply reply s.now, lastSent := .reply } }

/-- The same for a refusal: the reply has the SEQ of the request, its KIND with the top bit set, and the
status code followed by the refusal's fixed addition; the reply cache is as it was (R173, R180, R195). -/
def State.refusing (s : State) (f : Frame) (status : Byte) (addition : List Byte) : State :=
  s.replying f ⟨f.seq, f.kind ||| 0x80, status :: addition⟩

/-- The link after it has taken a request, with the reply on TXD and in the reply cache (R180, R181). -/
def Link.sending (l : Link) (f reply : Frame) (now : Nat) : Link :=
  { l with cache := some ⟨f.seq, f.kind, reply⟩, tx := .reply reply now, lastSent := .reply }

/-- The part after it has taken a request at once and answered it with this status and content, with nothing
else changed (R173, R180, R195). -/
def State.serving (s : State) (f : Frame) (status : Byte) (content : List Byte) : State :=
  { s.received f with
    link := (s.received f).link.sending f ⟨f.seq, f.kind ||| 0x80, status :: content⟩ s.now }

/-- The in-flight record of the notice at the front of a queue that has just come there (R183). -/
def freshInFlight (notices : List Notice) : InFlight :=
  match notices with
  | [] => ⟨0, false, none⟩
  | _ :: _ => ⟨0, true, none⟩

/-- The part, in a state that a request's owning block has left, after the reply with this status and content has
been entered in the cache and handed to the transmitter, which then chooses (R180, R181). -/
def State.answered (t : State) (f : Frame) (status : Byte) (content : List Byte) : State :=
  let reply : Frame := ⟨f.seq, f.kind ||| 0x80, status :: content⟩
  { t with link :=
      ({ t.link with cache := some ⟨f.seq, f.kind, reply⟩, reply := some reply }).arbitrate t.now }

/-- The start-up load is over and no LOAD is in flight: checks 1 and 5 of R179 refuse nothing. -/
abbrev State.ready (s : State) : Prop := s.starting = false ∧ s.store.operation.isLoading = false

/-- A request passes checks 1 to 5 of R179 on a link that can take it at once and does not know it as a
duplicate: what is left is its own rule. -/
abbrev State.passes (s : State) (c : Instr) (f : Frame) : Prop :=
  c.frame? = some f ∧ c.isKnownRequest = true ∧ s.quiet f ∧
    (s.starting = false ∨ f.kind = 0x01) ∧ lengthFits f.kind f.body = true ∧
    c.sessionRefusal s.session.state = none ∧
    (s.store.operation.isLoading = false ∨ c.refusedLoading = false)

/-! ### What the part does of itself -/

/-- The oldest waiting frame is this command, and no request is being answered, so that it is taken now (R179). -/
def State.takesWaiting (s : State) (c : Instr) : Prop :=
  s.link.reply = none ∧ (∀ f since, s.link.tx ≠ .reply f since) ∧
    ∃ f, s.link.waiting.head? = some f ∧ c.frame? = some f ∧
      (c.isKnownRequest = true ∨ f.kind ∉ requestKinds)

/-- A frame begun on TXD at a device time can end now: its characters of 10 bit times have had their time (R172).
An end between two values of the clock is taken at the one before it or at the one after it (assumption 10). -/
def State.canEnd (s : State) (f : Frame) (since : Nat) : Prop :=
  since + f.size * 10000000 / s.link.rate.baud ≤ s.now ∧
    (since + f.size * 10000000 / s.link.rate.baud < s.now ∨
      f.size * 10000000 % s.link.rate.baud = 0 ∨ Config.choice s.freeIx % 2 = 0)

end Sys2Proof.Machine

namespace Sys2Proof.Instr
open Sys2Proof.Machine

/-- Whether the time of an event of the part has come, or the condition under which the part takes it of itself,
event by event: R30 (a sample), R36 (a qualification), R8 and R18 (an expiry), R142 (SAFE_N), R72, R95, R117, R119,
R138, R139 (the times of the blocks), R161 to R167 (the ends of store operations), R171, R172, R181, R183, R176 and
R179 (the link). Whether the media fails an operation is a free value (assumption 4). -/
def dueAt (e : Instr) (s : State) : Prop :=
  match e with
  | .rawChange i circuit => circuit = s.lines[i].circuit ∧
    ∃ f, s.lines[i].filter = some f ∧ f.sampled = false ∧ pinLevel circuit f.drive ≠ f.raw
  | .qualification i => ∃ f p, s.lines[i].filter = some f ∧ f.settle = some p ∧
    p.onset + p.duration ≤ s.now
  | .claimExpiry i cls => cls ∈ [ClaimClass.pin, .trigger, .schedule] ∧
    ∃ c t, s.lines[i].claims.get cls = some c ∧ c.expiry = some t ∧ t ≤ s.now
  | .safeNChange level => level = s.pins.safeN ∧ s.session.safeN.sampled = false ∧
    level ≠ s.session.safeN.raw
  | .safeNQualification => ∃ onset, s.session.safeN.onset = some onset ∧ onset + 1000 ≤ s.now
  | .dueArrival => ∃ x ∈ s.schedule.entries, ∃ due, x.state = .timed due ∧ due ≤ s.now
  | .guardDeadline => ∃ x ∈ s.schedule.entries, ∃ due deadline,
    x.state = .guardWait due deadline ∧ deadline ≤ s.now
  | .fireTime => ∃ (k : SlotNo) (time : Nat), s.slots[k].phase = .pending time ∧ time ≤ s.now
  | .holdoffEnd k => ∃ time, s.slots[k].phase = .holdoff time ∧ time ≤ s.now
  | .warningArrival => s.session.state = .active ∧ ∃ time ∈ s.session.warning, time ≤ s.now
  | .leaseExpiry => s.session.state = .active ∧ ∃ time ∈ s.session.deadline, time ≤ s.now
  | .commitCompletion verified => ∃ p copy generation started draw,
    s.store.operation = .committing p copy generation started draw ∧
    verified = !Config.mediaFault draw ∧
    started + (20 + s.store.staging.records.length + 2 + (if verified then 1 else 0)) * 1000 ≤ s.now
  | .loadCompletion checked => ∃ p started n g rs, s.store.operation = .loading p started ∧
    s.store.media.slots[p].loadable = some (n, g, rs) ∧ checked = !Config.mediaFault s.freeIx ∧
    started + 1000 + 500 * rs.length ≤ s.now
  | .eraseFirstStepEnd => ∃ p first started, s.store.operation = .erasing p first started false ∧
    started + 20000 ≤ s.now
  | .eraseCompletion => ∃ p first started, s.store.operation = .erasing p first started true ∧
    started + 40000 ≤ s.now
  | .bootWriteCompletion verified => ∃ value copy generation started draw,
    s.store.operation = .bootWrite value copy generation started draw ∧
    verified = !Config.mediaFault draw ∧
    started + (if verified then 10000 else 9000) ≤ s.now
  | .startupLoadCompletion checked => s.starting = true ∧ checked = !Config.mediaFault s.freeIx ∧
    2000 ≤ s.now ∧
    ∀ p n g rs, s.store.media.bootValue = some p →
      s.store.media.slots[p].loadable = some (n, g, rs) → 3000 + 500 * rs.length ≤ s.now
  | .replyTransmissionEnd => ∃ f since, s.link.tx = .reply f since ∧ s.canEnd f since
  | .noticeTransmissionEnd => ∃ f since, s.link.tx = .notice f since ∧ s.canEnd f since
  | .retransmissionTime => s.link.breakSince = none ∧
    ∃ time ∈ s.link.inFlight.retransmitAt, time ≤ s.now
  | .frameGapTimeout => ∃ bs since, s.link.framer = .receiving bs since ∧ since + 5000 ≤ s.now
  | c => s.takesWaiting c

end Sys2Proof.Instr

namespace Sys2Proof.Machine

/-! ### The lines -/

/-- A line under a new configuration (R13, R14, R33): under a kept mode its claims stay, with BASE at the new base
level; under a new mode it holds the BASE claim of an output mode alone. Sensing that starts takes its first
sample of the pin as the change leaves it, and clears the glitch count; sensing that goes on keeps the filter;
sensing that stops discards it. -/
def Line.configured (l : Line) (c : LineConfig) : Line :=
  { l with
    config := c
    claims :=
      if c.mode = l.config.mode then
        if c.mode.isOutput then { l.claims with base := some ⟨c.base, .none, none⟩ } else l.claims
      else ⟨none, none, none, none, if c.mode.isOutput then some ⟨c.base, .none, none⟩ else none⟩
    filter :=
      if c.mode.isSensed then
        if l.config.mode.isSensed then l.filter
        else
          let drive := if c.mode = .sink then some c.base else none
          let first := pinLevel l.circuit drive
          some ⟨first, first, none, drive, true⟩
      else none
    glitches := if c.mode.isSensed ∧ ¬ l.config.mode.isSensed then 0 else l.glitches }

/-- Whether a line setting meets a line in use (R12): it changes the mode of a line that is referenced or holds a
claim other than BASE. -/
def Line.blocks (l : Line) (c : LineConfig) : Bool :=
  decide (c.mode ≠ l.config.mode) &&
    (decide (l.refs ≠ 0) || l.claims.failsafe.isSome || l.claims.pin.isSome ||
      l.claims.trigger.isSome || l.claims.schedule.isSome)

/-! ### Closing and failsafe entry -/

/-- The 16 newest of some outcome records (R78). -/
def lastSixteen (rs : List OutcomeRecord) : List OutcomeRecord := rs.drop (rs.length - 16)

/-- The part after a CLOSE in mode KEEP has been taken at once and answered with the session number (R140, R154,
R186). -/
def State.closedKeeping (s : State) (f : Frame) : State :=
  { s.serving f 0x00 (leBytes 2 s.session.number.toNat) with
    session := { s.session with state := .noSession, deadline := none, warning := none }
    store := { s.store with staging := s.store.staging.discard }
    link := { (s.serving f 0x00 (leBytes 2 s.session.number.toNat)).link with
      notices := [], inFlight := ⟨0, false, none⟩, lossMark := false } }

/-- The FAILSAFE claim that an output line gets by its failsafe spec, HOLD with the level the line had (R23). -/
def Line.forcedClaim (l : Line) : Option Claim :=
  match l.config.failsafe with
  | .base => none
  | .low => some ⟨.low, .none, none⟩
  | .high => some ⟨.high, .none, none⟩
  | .hold => some ⟨l.effective.getD .low, .none, none⟩

/-- The part right after a failsafe entry with a cause, but for the notices that the entry requests, and but for
the reply to a request that caused it (R23, R85, R127, R144, R154, R165). -/
def State.enteredFailsafe (s : State) (c : FailsafeCause) : State :=
  { s with
    session := { s.session with
      state := .failsafe, deadline := none, warning := none
      record := some ⟨c, s.now, decide (c = .lease), decide (c = .request), decide (c = .line)⟩ }
    lines := Vector.ofFn fun i =>
      { s.lines[i] with
        claims :=
          { s.lines[i].claims with
            failsafe :=
              if s.lines[i].isOutput then s.lines[i].forcedClaim else s.lines[i].claims.failsafe
            pin := none, trigger := none, schedule := none }
        refs := s.lines[i].refs - s.schedule.entries.countP (·.action.names i) }
    schedule := { s.schedule with
      entries := []
      outcomes := lastSixteen (s.schedule.outcomes ++
        (scheduleOrder s.schedule.entries).map fun e =>
          ⟨e.action.id, .aborted, s.now, e.applied, e.skipped⟩) }
    slots := Vector.ofFn fun k => { s.slots[k] with phase := .idle }
    store :=
      match s.store.operation with
      | .loading p _ => { s.store with
          staging := s.store.staging.discard, operation := .none
          lastResult := some ⟨.load, some p, .aborted, s.now⟩ }
      | _ => { s.store with staging := s.store.staging.discard }
    freeIx := if s.store.operation.isLoading then s.freeIx + 1 else s.freeIx }

/-- The links that a failsafe entry with a cause may leave: the link before with the FAILSAFE_ENTERED notice
enqueued, and, when a LOAD is aborted, its STORE_DONE too, in either order (R144, R165; assumption 3). -/
def State.entryLinks (s : State) (c : FailsafeCause) : List Link :=
  match s.store.operation with
  | .loading p _ =>
    [(s.link.enqueue (.storeDone .load (some p) .aborted)).enqueue (.failsafeEntered c s.now),
      (s.link.enqueue (.failsafeEntered c s.now)).enqueue (.storeDone .load (some p) .aborted)]
  | _ => [s.link.enqueue (.failsafeEntered c s.now)]

/-! ### The journal -/

/-- The part with this journal after a journaled edge, and with the ready notice asked for, and disarmed, when it
is armed and the held count has reached the threshold (R58). -/
def State.journaled (s : State) (j : Journal) : State :=
  if j.armed = true ∧ j.threshold ≤ j.records.length then
    { s with journal := { j with armed := false } }.enqueue
      (.journalReady j.records.length j.oldest)
  else { s with journal := j }

/-- The laws of the journal (R43, R44, R46, R49): at most 256 records, with consecutive sequence numbers up to the
next one; an open GAP only as the newest record; and a full journal ends with an open GAP. -/
def Journal.lawful (j : Journal) : Prop :=
  j.records.length ≤ 256 ∧
    (∀ (k : Nat) (h : k < j.records.length),
      (j.records[k]).seq = j.nextSeq - BitVec.ofNat 32 (j.records.length - k)) ∧
    (∀ (k : Nat) (h : k < j.records.length), (j.records[k]).isOpenGap = true →
      k + 1 = j.records.length) ∧
    (j.records.length = 256 → j.openGapNewest = true)

/-! ### The schedule -/

/-- Checks 2 to 10 of R62, in the order of its table: the refusal of the first that fails. -/
def State.submissionRefusal (s : State) (x : Submission) : Option (Byte × List Byte) :=
  let a := x.action
  if s.schedule.entries.any (fun e => decide (e.action.id = a.id)) then some (0x43, [])
  else if 48 ≤ s.schedule.entries.length then some (0x42, [])
  else match a.targets.find? fun t => !s.lines[t.line].isOutput with
  | some t => some (0x31, [oneByte t.line.val])
  | none =>
    match a.guard.filter fun g => !s.lines[g.line].isSensed with
    | some g => some (0x32, [oneByte g.line.val])
    | none =>
      if (x.dueAt s.now).any (fun due => decide (due < s.now + 50)) then
        some (0x40, timeBytes s.now)
      else if (x.dueAt s.now).any (fun due => decide (s.now + 4294967295 < due)) then
        some (0x41, timeBytes s.now)
      else if a.rep.any (fun r =>
          a.guard.any (fun g => decide (g.mode ≠ .skip)) || a.hold.any fun h => decide (r.period ≤ h))
        then some (0x12, [])
      else match a.chain with
        | none => none
        | some c =>
          match s.schedule.entries.find? fun e => decide (e.action.id = c.predecessor) with
          | none => some (0x44, [])
          | some p => if p.action.rep.isSome then some (0x45, []) else none

/-- A line after one target value of an application, in the class of its source (R7, R8). -/
def Line.targeted (l : Line) (cls : ClaimClass) (origin : Origin) (expiry : Option Nat)
    (v : TargetValue) : Line :=
  let own : Level :=
    match l.claims.get cls with
    | some c => c.level
    | none => l.config.base
  let level : Option Level :=
    match v with
    | .low => some .low
    | .high => some .high
    | .toggle => some (match own with | .low => .high | .high => .low)
    | .release => none
  match level with
  | some level =>
    if l.isOutput then { l with claims := l.claims.set cls (some ⟨level, origin, expiry⟩) } else l
  | none => { l with claims := l.claims.set cls none }

/-- The part after one application, or one firing, has applied its targets as one change (R9). -/
def State.targeted (s : State) (cls : ClaimClass) (origin : Origin) (hold : Option Nat)
    (targets : List Target) : State :=
  { s with lines := Vector.ofFn fun i =>
      match targets.find? fun t => decide (t.line = i) with
      | some t => s.lines[i].targeted cls origin (hold.map (s.now + ·)) t.value
      | none => s.lines[i] }

/-- The outcome record of a leaving at the present device time (R77). -/
def State.recordOf (s : State) (x : Entry × EntryOutcome) : OutcomeRecord :=
  ⟨x.1.action.id, x.2, s.now, x.1.applied, x.1.skipped⟩

/-- The part after these entries have left the schedule, one after another, with these outcomes: the entries are
gone, their references are dropped, their records are the newest of the outcome list, and a notice has been asked
for each that wants one and is not ABORTED (R76 to R79). -/
def State.left (s : State) (ls : List (Entry × EntryOutcome)) : State :=
  { s with
    schedule := { s.schedule with
      entries := s.schedule.entries.filter fun x =>
        ls.all fun l => decide (l.1.action.id ≠ x.action.id)
      outcomes := lastSixteen (s.schedule.outcomes ++ ls.map s.recordOf) }
    lines := Vector.ofFn fun i =>
      { s.lines[i] with refs := s.lines[i].refs - ls.countP (·.1.action.names i) }
    link :=
      if s.session.state = .noSession then s.link
      else (ls.filter fun x => x.1.action.notify && decide (x.2 ≠ .aborted)).foldl
        (fun link x => link.enqueue (.actionDone (s.recordOf x))) s.link }

/-- The entries that leave ORPHANED after the entry of an id, depth first and in admission order, each with the
id of its direct predecessor (R104). -/
def orphansOf : Nat → List Entry → Nat → List (Entry × EntryOutcome)
  | 0, _, _ => []
  | depth + 1, entries, id =>
    (entries.filter (·.waitsFor id)).flatMap fun d =>
      (d, .orphaned id) :: orphansOf depth entries d.action.id

/-- The leavings of a group cancel, from the queued entries and those of the group that have still to take
their turn: each one that is still queued leaves with the cause, and its chain after it leaves ORPHANED;
one that has left so before its turn is passed over (R82, R83, R104, R108). -/
def cancelTurns (cause : CancelCause) : List Entry → List Entry → List (Entry × EntryOutcome)
  | _, [] => []
  | queued, e :: turns =>
    if queued.any fun x => decide (x.action.id = e.action.id) then
      let gone := (e, .cancelled cause) :: orphansOf queued.length queued e.action.id
      gone ++ cancelTurns cause
        (queued.filter fun x => gone.all fun l => decide (l.1.action.id ≠ x.action.id)) turns
    else cancelTurns cause queued turns

/-- The leavings of the cancel of a group, taken in schedule order (R82, R83). -/
def State.groupLeavings (s : State) (group : Nat) (cause : CancelCause) : List (Entry × EntryOutcome) :=
  cancelTurns cause s.schedule.entries
    ((scheduleOrder s.schedule.entries).filter fun e => decide (e.action.group = group))

/-- The ids of the entries that left CANCELLED with a cause. -/
def cancelledIds (cause : CancelCause) (ls : List (Entry × EntryOutcome)) : List Nat :=
  (ls.filter fun l => decide (l.2 = .cancelled cause)).map (·.1.action.id)

/-- The part after an entry that waited for a guard edge has been applied and has left APPLIED (R74, R94). -/
def State.appliedWaiting (s : State) (e : Entry) : State :=
  (s.targeted .schedule (.action e.action.id) e.action.hold e.action.targets).leave
    { e with applied := min (e.applied + 1) 65535, lastApplied := some s.now } .applied

/-- Whether a line holds a SCHEDULE claim whose origin is one of these action ids (R81, R82). -/
def Line.scheduledBy (l : Line) (ids : List Nat) : Bool :=
  l.claims.schedule.any fun c => ids.any fun id => decide (c.origin = .action id)

/-- Whether a line holds a TRIGGER claim whose origin is this slot (R124, R125). -/
def Line.triggeredBy (l : Line) (k : SlotNo) : Bool :=
  l.claims.trigger.any fun c => decide (c.origin = .slot k)

/-- The part without the SCHEDULE claims of these action ids, when a release flag asks for it (R81, R82). -/
def State.releasing (s : State) (flag : Bool) (ids : List Nat) : State :=
  { s with lines := Vector.ofFn fun i =>
      if flag && s.lines[i].scheduledBy ids then
        { s.lines[i] with claims := { s.lines[i].claims with schedule := none } }
      else s.lines[i] }

/-- The laws of the schedule (R60, R67, R71, R102): at most 48 entries, no two of one id; the predecessor of an
entry in WAITING_PRED is queued before it, and does not repeat. -/
def Schedule.lawful (c : Schedule) : Prop :=
  c.entries.length ≤ 48 ∧ (c.entries.map (·.action.id)).Nodup ∧
    ∀ (earlier later : List Entry) (e : Entry), c.entries = earlier ++ e :: later →
      e.state = .waitingPred →
      ∃ ch p, e.action.chain = some ch ∧ p ∈ earlier ∧ p.action.id = ch.predecessor ∧
        p.action.rep = none

/-! ### Triggers -/

/-- Checks 2 to 5 of R112, in the order of its table: the refusal of the first that fails. -/
def State.definitionRefusal (s : State) (k : SlotNo) (d : TriggerDef) : Option (Byte × List Byte) :=
  if s.slots[k].running then some (0x50, [])
  else match d.targets.find? fun t => !s.lines[t.line].isOutput with
  | some t => some (0x31, [oneByte t.line.val])
  | none =>
    if s.lines[d.watched].isSensed = false then some (0x32, [oneByte d.watched.val])
    else match d.qualifier.filter fun q => !s.lines[q.line].isSensed with
    | some q => some (0x32, [oneByte q.line.val])
    | none => none

/-- The part without the TRIGGER claims of a slot, when it is asked for (R124, R125). -/
def State.releasingSlot (s : State) (flag : Bool) (k : SlotNo) : State :=
  { s with lines := Vector.ofFn fun i =>
      if flag && s.lines[i].triggeredBy k then
        { s.lines[i] with claims := { s.lines[i].claims with trigger := none } }
      else s.lines[i] }

/-- The number of lines that hold a TRIGGER claim of a slot. -/
def State.slotClaims (s : State) (k : SlotNo) : Nat :=
  (List.finRange 40).countP fun i => s.lines[i].triggeredBy k

/-- Whether a definition's qualifier is true, or it has none (R113). -/
def State.qualifies (s : State) (d : TriggerDef) : Prop :=
  ∀ q ∈ d.qualifier, s.lines[q.line].sensedLevel = q.level

/-- A slot right after it has fired (R118, R119, R121). -/
def Slot.fired (slot : Slot) (mode : TriggerMode) (now : Nat) : Slot :=
  { slot with
    firings := slot.firings + 1
    phase :=
      match mode with
      | .oneshot => .idle
      | .rearm holdoff => if holdoff = 0 then .armed else .holdoff (now + holdoff) }

/-- The part after the cancel group of a firing, if it has one, has been cancelled (R83). -/
def State.groupCancelled (s : State) (k : SlotNo) (d : TriggerDef) : State :=
  if d.cancelGroup = 0 then s else (s.cancelGroup d.cancelGroup (.trigger k)).1

/-- The part after the notice of a firing, if it wants one, has been asked for (R118). -/
def State.firingNoted (s : State) (k : SlotNo) (d : TriggerDef) (firings : Serial) : State :=
  if d.notify then s.enqueue (.triggerFired k firings s.now) else s

/-! ### The profile store -/

/-- The records that describe the live state, in the order of R158: a LINES record for each bank with a line that
is not in PARK, FILTERS, JOURNAL, a TRIGGER record for each defined slot, and LABEL when a label is current. -/
def State.captured (s : State) : List ProfileRecord :=
  ((List.finRange 5).filterMap fun bank =>
    let configs := (List.finRange 8).map fun k =>
      (s.lines[8 * bank.val + k.val]'(by omega)).config
    if configs.all fun c => decide (c.mode = .park) then none
    else some (ProfileRecord.lines ⟨8 * bank.val, by omega⟩ configs))
  ++ [.filters s.settleTimes, .journal s.journal.threshold]
  ++ ((List.finRange 16).filterMap fun k =>
      match s.slots[k].definition with
      | some d => some (ProfileRecord.trigger k d (decide (s.slots[k].phase ≠ .idle)))
      | none => none)
  ++ (match s.store.label with
      | some label => [.label label]
      | none => [])

/-- The number of slots that name a line under a profile (R10, R129). -/
def refsUnder (rs : List ProfileRecord) (i : LineNo) : Nat :=
  (List.finRange 16).countP fun k => (profileSlot rs k).names i

/-- The part under a whole profile (R164): every line at its described configuration or the factory one, without
a TRIGGER claim, and with its references by the new slots; the settle times, the threshold, the slots and the
label by the profile, or at the values that stand in for what it lacks. -/
def State.underProfile (s : State) (rs : List ProfileRecord) : State :=
  { s with
    settleTimes := profileSettleTimes rs
    lines := Vector.ofFn fun i =>
      let l := s.lines[i].configured
        ((profileConfig rs i).getD ⟨.park, .low, 0, .none, .base⟩)
      { l with
        claims := { l.claims with trigger := none }
        refs := l.refs - ((List.finRange 16).countP fun k => s.slots[k].names i)
          + refsUnder rs i }
    journal := { s.journal with threshold := profileThreshold rs }
    slots := Vector.ofFn fun k => profileSlot rs k
    store := { s.store with label := profileLabel rs } }

/-- The part at the end of a store operation that has left the media and the staging list so: the operation state
is NONE, the last-result record is this one, a STORE_DONE notice has been asked for, and the transmitter has
chosen (R162, R164 to R167, R169). -/
def State.storeDone (s : State) (op : StoreOp) (slot : Option ProfileNo) (r : StoreResult) : State :=
  let t := { s with store := { s.store with
    operation := .none, lastResult := some ⟨op, slot, r, s.now⟩ } }.enqueue (.storeDone op slot r)
  { t with link := t.link.arbitrate t.now }

/-- The part with one copy of a profile slot in this condition. -/
def State.withCopy (s : State) (p : ProfileNo) (n : CopyNo) (c : Copy (List ProfileRecord)) : State :=
  let pair := s.store.media.slots[p]
  let changed := match n with
    | .copy0 => { pair with copy0 := c }
    | .copy1 => { pair with copy1 := c }
  { s with store := { s.store with
      media := { s.store.media with slots := s.store.media.slots.set p changed } } }

/-- The part with one copy of the boot selector in this condition. -/
def State.withSelectorCopy (s : State) (n : CopyNo) (c : Copy (Option ProfileNo)) : State :=
  let changed := match n with
    | .copy0 => { s.store.media.selector with copy0 := c }
    | .copy1 => { s.store.media.selector with copy1 := c }
  { s with store := { s.store with media := { s.store.media with selector := changed } } }

/-! ### Layouts -/

/-- A trigger definition whose numbers fit its fields, that targets no line twice, and that does something (R110,
10.5). -/
def TriggerDef.inRange (d : TriggerDef) : Prop :=
  d.delay < 2 ^ 24 ∧ (∀ h, d.mode = .rearm h → h < 2 ^ 24) ∧
    (∀ h ∈ d.hold, 1 ≤ h ∧ h < 2 ^ 24) ∧ d.cancelGroup ≤ 15 ∧ d.targets.length ≤ 4 ∧
    (d.targets.map (·.line)).Nodup ∧ ¬ (d.targets = [] ∧ d.cancelGroup = 0 ∧ d.notify = false)

/-- A profile record whose content is in range (R153). -/
def ProfileRecord.inRange : ProfileRecord → Prop
  | .lines first configs =>
    1 ≤ configs.length ∧ configs.length ≤ 8 ∧ first.val + configs.length ≤ 40
  | .filters times => ∀ c : Fin 4, times[c] < 65536
  | .journal threshold => 1 ≤ threshold ∧ threshold ≤ 256
  | .trigger _ d _ => d.inRange
  | .label characters =>
    1 ≤ characters.length ∧ characters.length ≤ 32 ∧
      ∀ b ∈ characters, 0x20 ≤ b.toNat ∧ b.toNat ≤ 0x7E

/-- A submission whose numbers fit its fields and that check 1 of R62 admits (R63). -/
def Submission.inRange (x : Submission) : Prop :=
  1 ≤ x.action.id ∧ x.action.id < 65536 ∧ x.action.group ≤ 15 ∧
    1 ≤ x.action.targets.length ∧ x.action.targets.length ≤ 8 ∧
    (x.action.targets.map (·.line)).Nodup ∧
    (∀ h ∈ x.action.hold, 1 ≤ h ∧ h < 2 ^ 24) ∧
    (∀ g ∈ x.action.guard, ∀ limit, g.mode = .wait limit → 1 ≤ limit ∧ limit < 2 ^ 24) ∧
    (∀ r ∈ x.action.rep, 50 ≤ r.period ∧ r.period < 2 ^ 32 ∧ r.count ≠ 1 ∧ r.count < 65536) ∧
    (∀ c ∈ x.action.chain, 1 ≤ c.predecessor ∧ c.predecessor < 65536 ∧ c.offset < 2 ^ 32) ∧
    (x.due.isSome = x.action.chain.isNone) ∧
    (∀ t, x.due = some (.absolute t) → t < 2 ^ 48) ∧
    (∀ t, x.due = some (.relative t) → t < 2 ^ 32)

/-- The body of a SUBMIT ACTION, in the layout of 10.5. -/
def Submission.bytes (x : Submission) : List Byte :=
  let flags : Nat :=
    (if x.action.notify then 1 else 0)
    + (match x.due with | some (.relative _) => 2 | _ => 0)
    + (if x.due.isSome then 4 else 0) + (if x.action.hold.isSome then 8 else 0)
    + (if x.action.guard.isSome then 16 else 0) + (if x.action.rep.isSome then 32 else 0)
    + (if x.action.chain.isSome then 64 else 0)
  leBytes 2 x.action.id ++ [oneByte flags, oneByte x.action.group]
    ++ (match x.due with
        | some (.absolute t) => leBytes 6 t
        | some (.relative d) => leBytes 4 d ++ [0, 0]
        | none => leBytes 6 0)
    ++ leBytes 3 (x.action.hold.getD 0)
    ++ (match x.action.guard with
        | some g => [oneByte g.line.val, g.wanted.code] ++
          (match g.mode with
           | .skip => 0 :: leBytes 3 0
           | .wait limit => 1 :: leBytes 3 limit)
        | none => leBytes 6 0)
    ++ (match x.action.rep with
        | some r => leBytes 4 r.period ++ leBytes 2 r.count
        | none => leBytes 6 0)
    ++ (match x.action.chain with
        | some c => leBytes 2 c.predecessor ++ leBytes 4 c.offset
        | none => leBytes 6 0)
    ++ [oneByte x.action.targets.length]
    ++ x.action.targets.flatMap fun t => [oneByte t.line.val, t.value.code]

/-! ### Reset -/

/-- Every volatile state at the value that the spec gives for start-up reset (R3, R42, R59, R90, R130, R149,
R154, R155, R169, R171, R172, R191), with the media, the outside circuits, the queue of commands and the
model's counter kept. -/
def State.atReset (s : State) (pins : Pins) (cause : ResetCause) : State where
  pending := s.pending
  pins := pins
  resetCause := cause
  now := 0
  settleTimes := #v[0, 100, 1000, 10000]
  lines := Vector.ofFn fun i =>
    ⟨⟨.park, .low, 0, .none, .base⟩, ⟨none, none, none, none, none⟩, 0, none, 0, s.lines[i].circuit⟩
  journal := ⟨[], 1, 1, true⟩
  schedule := ⟨[], 0, []⟩
  slots := Vector.replicate 16 ⟨none, .idle, 0, 0, 0⟩
  session := ⟨.noSession, 0, 0, none, none, none, ⟨pins.safeN, pins.safeN == .low, none, true⟩⟩
  store := ⟨s.store.media, .idle, .none, none, none, .inProgress, none⟩
  link :=
    { rate := .ofStraps pins.rate1 pins.rate0, framer := .hunting, waiting := [], cache := none,
      notices := [], inFlight := ⟨0, false, none⟩, nextNumber := 1, lossMark := false, lost := 0,
      crcErrors := 0, framingErrors := 0, overruns := 0, tx := .idle, reply := none,
      lastSent := .nothing, breakSince := none, resetPending := false, deafUntil := 0, rxd := .low 0 }
  freeIx := s.freeIx

/-- While the part is held in reset every block is at its reset values and the clock at 0 (R189); the level
that the SAFE_N filter found and the link rate are those of the reset. -/
def State.heldLawful (s : State) : Prop :=
  s.held = true → ∃ pins : Pins,
    s = { s.atReset pins s.resetCause with pins := s.pins }

/-! ### The check of a frame -/

/-- One bit of a message into the register of a CRC with the generator x^16 + x^12 + x^5 + 1 (R174). -/
def shiftIn (r : BitVec 16) (bit : Bool) : BitVec 16 :=
  if r.msb = bit then r <<< 1 else (r <<< 1) ^^^ 0x1021#16

/-- The bits of a byte, most significant first. -/
def bitsOf (b : Byte) : List Bool :=
  [b[7], b[6], b[5], b[4], b[3], b[2], b[1], b[0]]

/-- The CRC of R174, bit by bit, from a register of ones. -/
def serialCrc (bs : List Byte) : BitVec 16 := (bs.flatMap bitsOf).foldl shiftIn 0xFFFF#16

/-- Commands executed one after another. -/
def runCommands : List Instr → State → Host.Outcome State Fault Refusal
  | [], s => .next s
  | c :: cs, s =>
    match exec c s with
    | .next t => runCommands cs t
    | .fault r => .fault r
    | .refused r => .refused r

/-! ### Laws of the lines -/

/-- The laws of one line: R4 (exactly one BASE claim, at the base level, on an output line, and no claim
on another), R33 (a filter exactly while the line is sensed), and the range of the glitch count. -/
def Line.lawful (l : Line) : Prop :=
  (if l.isOutput then l.claims.base = some (baseClaim l.config.base) else l.claims = .empty) ∧
    l.filter.isSome = l.isSensed ∧ l.glitches ≤ 255

/-- Every line is lawful. -/
def State.linesLawful (s : State) : Prop := ∀ i : LineNo, s.lines[i].lawful

/-! ### Bounds -/

/-- The framer's bytes are those of one partial frame: a SYNC, then a LEN in range, then fewer bytes than
the frame has (R175). -/
def Framer.lawful : Framer → Prop
  | .hunting => True
  | .receiving bs _ =>
    1 ≤ bs.length ∧ (2 ≤ bs.length → badLen (bs.getD 1 0) = false ∧ bs.length < wholeLength bs)

/-- The bounds that the spec sets to the lists and counters of the Link Port (R178, R182, R183). -/
def Link.lawful (l : Link) : Prop :=
  l.framer.lawful ∧ l.bufferBytes ≤ 512 ∧ l.notices.length ≤ 12 ∧ l.inFlight.count ≤ 4 ∧
    (l.inFlight.due = true → l.inFlight.count ≤ 3) ∧ l.lost ≤ 65535 ∧ l.crcErrors ≤ 65535 ∧
    l.framingErrors ≤ 65535 ∧ l.overruns ≤ 65535

/-- The bounds of the link, the outcome list and the staging list (R78, R154, R178, R182, R183), the empty notice
queue of NO_SESSION (R182), and a transmitter that has nothing left to choose (R181). -/
def State.bounded (s : State) : Prop :=
  s.link.lawful ∧ s.link.settled ∧ (s.session.state = .noSession → s.link.notices = []) ∧
    s.schedule.outcomes.length ≤ 16 ∧ s.store.staging.records.length ≤ 32

/-! ### Failsafe -/

/-- A line without a PIN, TRIGGER or SCHEDULE claim. -/
def Line.swept (l : Line) : Prop :=
  l.claims.pin = none ∧ l.claims.trigger = none ∧ l.claims.schedule = none

/-- While the session state is FAILSAFE no line holds a PIN, TRIGGER or SCHEDULE claim, the schedule is
empty, no slot is running and no LOAD is in flight, and the record tells of the entry; in another state no
line holds a FAILSAFE claim (R23, R85, R127, R144, R165). The start-up load runs in NO_SESSION (R149). -/
def State.failsafeLawful (s : State) : Prop :=
  (s.session.state = .failsafe →
    (∀ i : LineNo, s.lines[i].swept) ∧ s.schedule.entries = [] ∧
      (∀ k : SlotNo, s.slots[k].running = false) ∧ s.store.operation.isLoading = false ∧
      s.session.record.isSome = true ∧ s.session.deadline = none) ∧
  (s.session.state ≠ .failsafe → ∀ i : LineNo, s.lines[i].claims.failsafe = none) ∧
  (s.starting = true → s.session.state = .noSession)

/-! ### References -/

/-- Whether the lines an action names have fitting modes: DRIVE or SINK for the targets, INPUT or SINK for
the guard line (R10, R65). -/
def Action.fits (a : Action) (modeOf : LineNo → Mode) : Bool :=
  a.targets.all (fun t => (modeOf t.line).isOutput) &&
    (match a.guard with
     | some g => (modeOf g.line).isSensed
     | none => true)

/-- The mode of a line of the part. -/
def State.modeOf (s : State) (i : LineNo) : Mode := s.lines[i].config.mode

/-- Every copy that is VALID holds a profile without a bad record (R150, R160). -/
def Media.lawful (m : Media) : Prop :=
  ∀ (p : ProfileNo) (n : CopyNo) (g : Serial) (rs : List ProfileRecord),
    m.slots[p].get n = .valid g rs → invalidAt rs = none

/-- The store holds only validated profiles: in the media, and in the list that a commit writes (R160). -/
def Store.lawful (c : Store) : Prop :=
  c.media.lawful ∧ match c.operation with
    | .committing p _ _ _ _ => ∃ rs, c.staging = .committing p rs ∧ invalidAt rs = none
    | .none | .loading _ _ | .erasing _ _ _ _ | .bootWrite _ _ _ _ _ => True

/-- The schedule is lawful; each line's reference count is the number of queued entries and non-empty slots that
name it, and every line named is in a fitting mode (R10, R111); the schedule is empty while a profile is being
read (R163, R90). -/
def State.referencesLawful (s : State) : Prop :=
  s.schedule.lawful ∧
  (∀ i : LineNo, s.lines[i].refs =
    s.schedule.entries.countP (·.action.names i) + refsFrom s.slots i) ∧
  (∀ e ∈ s.schedule.entries, e.action.fits s.modeOf = true) ∧
  (∀ k : SlotNo, ∀ d, s.slots[k].definition = some d → d.fits s.modeOf = true) ∧
  (s.store.operation.isLoading = true ∨ s.starting = true → s.schedule.entries = []) ∧
  s.store.lawful

end Sys2Proof.Machine
end

