-- ==== Sys2Proof/WellFormed.lean ====
section
/-! DEFINITION. Which commands are well formed: those whose operands the spec's own events and frames
can have. Line, slot and class numbers are in range by their types. `exec` has a meaning for every
command, well formed or not; an ill-formed event is one that cannot happen, and changes nothing. -/

namespace Sys2Proof

/-- A body holds at most 248 bytes (R173). -/
def wellFormedBody (body : List Byte) : Bool := decide (body.length ≤ 248)

/-- Whether the operands of a command are ones that its row of the table can have. -/
def Instr.wellFormed (i : Instr) : Bool :=
  match i with
  | .unknownRequest _ kind body =>
    wellFormedBody body && !requestKinds.contains kind && kind != ackKind
  | .validFrameArrival _ _ body => wellFormedBody body
  | .ack _ body => wellFormedBody body
  | .lenOutOfRange len => decide (len.toNat < 2 ∨ 250 < len.toNat)
  | .claimExpiry _ cls => cls != .failsafe && cls != .base
  | _ => match i.frame? with
    | some f => wellFormedBody f.body
    | none => true

end Sys2Proof
end

