-- ==== Sys2Proof/Certificates/Slice0/Obligations.lean ====
section
/-! DEFINITION. The statements for the provers. A statement about a request is about its taking on a link that
can take it at once and begin its reply (`State.quiet`); `WaitingAndDuplicateRequests` says what the same command does
while TXD carries a notice, behind other requests, and where it cannot arrive. Every statement of a request gives
the whole next state, so that it is the result, the frame and the completion of the request in one; a statement of an
event does the same, with the transmitter's choice at the end of the event (`Link.arbitrate`, `TransmitterChoice`). -/

open Sys2Proof Sys2Proof.Machine

/-! ### Steps and reset -/

/-- A step with a command at the front of the queue is `exec` of that command on the state with the queue's
rest. -/
def Obligations.StepTakesFrontCommand : Prop :=
  ∀ (c : Instr) (s : State), step { s with pending := c :: s.pending } = exec c s

/-- A step on an empty queue takes one of the events whose time has come, after a free value is drawn; or, at
the clock's last value, the clock limit; or it advances the clock by 1 µs, which latches the drive of every
sensed line for the sample of that time (the effective level of a SINK line, and none of another), has that sample and
the one of SAFE_N still to be taken, and reads the boot selector once 2,000 µs of the start-up load are over. The
events whose time has come are, while the part is not held in reset, those of `Instr.dueAt`, each at its own time: a
changed pin, a settle, an expiry, a due time, a guard deadline, a fire time, a holdoff end, the two times of the lease,
the end of a store operation and of the start-up load, the end of a transmission, a retransmission, a gap in a frame,
and the oldest waiting request while none is being answered. That the part takes them so, on an empty queue, is the
model's choice: assumptions 1, 3, 4, 8, 10, 11 and 24. -/
def Obligations.IdleStep : Prop :=
  (∀ (e : Instr) (s : State), e ∈ dueEvents s ↔ s.held = false ∧ e.dueAt s) ∧
  ∀ s : State, s.pending = [] →
    (dueEvents s ≠ [] →
      ∃ e ∈ dueEvents s, step s = exec e { s with freeIx := s.freeIx + 1 }) ∧
    (dueEvents s = [] → lastTime ≤ s.now → step s = exec .clockLimit s) ∧
    (dueEvents s = [] → s.now < lastTime → s.held = true → step s = .next s) ∧
    (dueEvents s = [] → s.now < lastTime → s.held = false →
      ∃ t, step s = .next t ∧ t.now = s.now + 1 ∧
        (∀ i : LineNo, t.lines[i] =
          { s.lines[i] with
            filter :=
              s.lines[i].filter.map ({ · with
                drive := if s.lines[i].config.mode = .sink then s.lines[i].effective else none
                sampled := false }) }) ∧
        t.session = { s.session with safeN := { s.session.safeN with sampled := false } } ∧
        t.store.bootSlot =
          (if s.starting = true ∧ 2000 ≤ s.now + 1 then s.store.media.bootValue
           else s.store.bootSlot) ∧
        { t with
          now := s.now, lines := s.lines, session := s.session
          store := { t.store with bootSlot := s.store.bootSlot } } = s)

/-- While the part is held in reset, its supply out of range or RST_N low, a command changes nothing in it, but for
the commands of the supply and of RST_N; a circuit outside and the SAFE_N pin change as the outside does; and every
step keeps this law: every block is at its reset values and the clock at 0. What the pins do to a part held in reset,
and the SAFE_N level and the link rate that it keeps from the time the hold began, are the model's reading (DEDUCED,
assumption 12). -/
def Obligations.PartHeldInReset : Prop :=
  (∀ s : State, s.held = true ↔ s.pins.supplyInRange = false ∨ s.pins.rstN = .low) ∧
  (∀ (c : Instr) (s : State), s.held = true → c.actsWhileHeld = false → exec c s = .next s) ∧
  (∀ (i : LineNo) (circuit : Outside) (s : State), s.held = true →
    exec (.rawChange i circuit) s =
      .next { s with lines := s.lines.set i { s.lines[i] with circuit := circuit } }) ∧
  (∀ (level : Level) (s : State), s.held = true →
    exec (.safeNChange level) s = .next { s with pins := { s.pins with safeN := level } }) ∧
  (∀ s t : State, s.heldLawful → step s = .next t → t.heldLawful)

/-- The reset values that the spec states, in the state after reset, and that this state keeps every law that the
steps keep. The levels of the pins outside are the model's choice (assumption 2) and no part of this. -/
def Obligations.ResetState : Prop :=
  State.reset.pending = [] ∧ State.reset.resetCause = .power ∧ State.reset.now = 0 ∧
  State.reset.settleTimes = #v[0, 100, 1000, 10000] ∧
  (∀ i : LineNo, State.reset.lines[i].config = ⟨.park, .low, 0, .none, .base⟩ ∧
    State.reset.lines[i].claims = ⟨none, none, none, none, none⟩ ∧
    State.reset.lines[i].refs = 0 ∧ State.reset.lines[i].filter = none ∧
    State.reset.lines[i].glitches = 0) ∧
  State.reset.journal = ⟨[], 1, 1, true⟩ ∧ State.reset.schedule = ⟨[], 0, []⟩ ∧
  (∀ k : SlotNo, State.reset.slots[k] = ⟨none, .idle, 0, 0, 0⟩) ∧
  State.reset.session.state = .noSession ∧ State.reset.session.number = 0 ∧
  State.reset.session.lease = 0 ∧ State.reset.session.deadline = none ∧
  State.reset.session.warning = none ∧ State.reset.session.record = none ∧
  State.reset.session.safeN.onset = none ∧
  (∀ p : ProfileNo, State.reset.store.media.slots[p] = ⟨.erased, .erased⟩) ∧
  State.reset.store.media.selector = ⟨.erased, .erased⟩ ∧
  State.reset.store.staging = .idle ∧ State.reset.store.operation = .none ∧
  State.reset.store.lastResult = none ∧ State.reset.store.label = none ∧
  State.reset.store.bootResult = .inProgress ∧ State.reset.store.bootSlot = none ∧
  State.reset.link.framer = .hunting ∧ State.reset.link.waiting = [] ∧
  State.reset.link.cache = none ∧ State.reset.link.notices = [] ∧
  State.reset.link.nextNumber = 1 ∧ State.reset.link.lossMark = false ∧
  State.reset.link.lost = 0 ∧ State.reset.link.crcErrors = 0 ∧
  State.reset.link.framingErrors = 0 ∧ State.reset.link.overruns = 0 ∧
  State.reset.link.tx = .idle ∧ State.reset.link.reply = none ∧
  State.reset.link.lastSent = .nothing ∧ State.reset.link.breakSince = none ∧
  State.reset.link.txd 0 = .high ∧ State.reset.link.rxd = .low 0 ∧
  State.reset.heldLawful ∧ State.reset.journal.lawful ∧
    State.reset.linesLawful ∧ State.reset.bounded ∧ State.reset.failsafeLawful ∧
    State.reset.referencesLawful

/-- The start-up resets of the supply, of RST_N and of the clock's limit, each with its cause; a release of
RST_N starts the part from the reset values at which it was held. The reset cause while the supply is below
its range, a second RST_N_ASSERT, and strap levels of any kind at the clock's limit are the model's choice
(assumptions 12 and 13). The straps select the rate by the table of R172, and the clock's last value is 2^48 − 1
(R28). -/
def Obligations.StartUpResets : Prop :=
  lastTime = 2 ^ 48 - 1 ∧
  ([Rate.ofStraps .low .low, .ofStraps .low .high, .ofStraps .high .low, .ofStraps .high .high].map
    Rate.baud = [115200, 460800, 1000000, 3000000]) ∧
  (∀ (rate1 rate0 : Level) (s : State),
    exec (.powerOn rate1 rate0) s =
      .next (s.atReset { s.pins with supplyInRange := true, rate1 := rate1, rate0 := rate0 }
        .power)) ∧
  (∀ (rate1 rate0 : Level) (s : State), s.pins.rstN = .high → s.pins.supplyInRange = true →
    exec (.rstNAssert rate1 rate0) s =
      .next (s.atReset { s.pins with rstN := .low, rate1 := rate1, rate0 := rate0 } .line)) ∧
  (∀ (rate1 rate0 : Level) (s : State), s.pins.rstN = .high → s.pins.supplyInRange = false →
    exec (.rstNAssert rate1 rate0) s =
      .next { s with pins := { s.pins with rstN := .low, rate1 := rate1, rate0 := rate0 } }) ∧
  (∀ (rate1 rate0 : Level) (s : State), s.pins.rstN = .low →
    exec (.rstNAssert rate1 rate0) s = .next s) ∧
  (∀ s : State, exec .rstNRelease s = .next { s with pins := { s.pins with rstN := .high } }) ∧
  (∀ s : State, exec .supplyBelowRange s =
    .next (s.atReset { s.pins with supplyInRange := false } s.resetCause)) ∧
  (∀ s : State, s.held = false → lastTime ≤ s.now →
    ∃ rate1 rate0 : Level, exec .clockLimit s = .next
      { s.atReset { s.pins with rate1 := rate1, rate0 := rate0 } .clock with
        freeIx := s.freeIx + 2 }) ∧
  (∀ s : State, s.held = false → s.now < lastTime → s.link.settled →
    exec .clockLimit s = .next s)

/-- RESET is answered OK, and the start-up reset with cause REQUEST comes at the end of its reply; the end of any
other reply frees TXD, and the transmitter chooses. A reply of n bytes ends n character times of 10 bit times after
its beginning, and not before; an end between two values of the clock may be taken at either, and the straps may have
any level at the reset (the model's choice, assumptions 10 and 13). -/
def Obligations.ResetRequestAndReplyEnd : Prop :=
  (∀ (s : State) (seq : Byte), s.passes (.reset seq []) ⟨seq, 0x03, []⟩ →
    exec (.reset seq []) s = .next { s.serving ⟨seq, 0x03, []⟩ 0x00 [] with
      link := { (s.serving ⟨seq, 0x03, []⟩ 0x00 []).link with resetPending := true } }) ∧
  (∀ (s : State) (f : Frame) (since : Nat), s.held = false → s.link.tx = .reply f since →
    (since + f.size * 10000000 / s.link.rate.baud ≤ s.now →
      (s.link.resetPending = false →
        exec .replyTransmissionEnd s =
          .next { s with link := ({ s.link with tx := .idle }).arbitrate s.now }) ∧
      (s.link.resetPending = true →
        ∃ rate1 rate0 : Level, exec .replyTransmissionEnd s = .next
          { s.atReset { s.pins with rate1 := rate1, rate0 := rate0 } .request with
            freeIx := s.freeIx + 2 })) ∧
    (s.now < since + f.size * 10000000 / s.link.rate.baud →
      exec .replyTransmissionEnd s = .next s))

/-! ### The link: frames -/

/-- The CHECK of a frame is the CRC of R174: its bit by bit definition, its value for "123456789", its two
bytes, high byte first, in every frame sent, and the test of a received frame. -/
def Obligations.CheckIsTheCrc : Prop :=
  (∀ bs : List Byte, crc bs = serialCrc bs) ∧
  serialCrc [0x31, 0x32, 0x33, 0x34, 0x35, 0x36, 0x37, 0x38, 0x39] = 0x29B1#16 ∧
  (∀ f : Frame, ∃ high low : Byte,
    f.bytes = 0xC3 :: oneByte (f.body.length + 2) :: f.seq :: f.kind :: f.body ++ [high, low] ∧
    high ++ low = serialCrc (oneByte (f.body.length + 2) :: f.seq :: f.kind :: f.body)) ∧
  (∀ (len seq kind high low : Byte) (body : List Byte),
    Frame.ofBytes (0xC3 :: len :: seq :: kind :: body ++ [high, low]) =
      if high ++ low = serialCrc (len :: seq :: kind :: body) then some ⟨seq, kind, body⟩
      else none)

/-- The characters of a frame, received one after another by a framer in HUNTING with room for them, are that
frame's arrival; with another pair of CHECK bytes they are a CRC error. -/
def Obligations.FramerReceivesFrames : Prop :=
  (∀ f : Frame, f.size = f.bytes.length) ∧
  ∀ (s : State) (f : Frame), s.held = false → s.hearing → s.link.framer = .hunting →
    f.body.length ≤ 248 → (s.link.waiting.map Frame.size).sum + f.size ≤ 512 → s.link.settled →
    runCommands (f.bytes.map .characterReceived) s =
      exec (.validFrameArrival f.seq f.kind f.body) s ∧
    (∀ high low : Byte,
      high ++ low ≠ serialCrc (oneByte (f.body.length + 2) :: f.seq :: f.kind :: f.body) →
      runCommands ((0xC3 :: oneByte (f.body.length + 2) :: f.seq :: f.kind :: f.body ++
          [high, low]).map .characterReceived) s =
        exec .crcError s)

/-- A character received (R175): what the framer makes of it in HUNTING and in RECEIVING, and the overrun of a full
receive buffer (R178). The character that makes a frame whole is in `FramerReceivesFrames`. A LEN out of range is a
framing error with a full buffer too, and no character comes in a character time after a character fault or a line
break: the model's reading (DEDUCED, assumptions 18 and 23). A character's stop bit finds RXD high, which is kept
(assumption 21). The buffer holds the bytes of the partial frame and of the waiting frames. -/
def Obligations.CharacterReceived : Prop :=
  (∀ l : Link,
    (l.framer = .hunting → l.bufferBytes = (l.waiting.map Frame.size).sum) ∧
    (∀ bs since, l.framer = .receiving bs since →
      l.bufferBytes = bs.length + (l.waiting.map Frame.size).sum)) ∧
  ∀ (s : State) (ch : Byte), s.held = false → s.link.settled →
    (¬ s.hearing → exec (.characterReceived ch) s = .next s) ∧
    (s.hearing →
      (s.link.framer = .hunting → ch ≠ 0xC3 →
        exec (.characterReceived ch) s = .next { s with link := { s.link with rxd := .high s.now } }) ∧
      (s.link.framer = .hunting → ch = 0xC3 → s.link.bufferBytes < 512 →
        exec (.characterReceived ch) s =
          .next { s with link := { s.link with framer := .receiving [ch] s.now, rxd := .high s.now } }) ∧
      (s.link.framer = .hunting → ch = 0xC3 → 512 ≤ s.link.bufferBytes →
        exec (.characterReceived ch) s =
          .next { s with link := { s.link with
            overruns := min (s.link.overruns + 1) 65535, rxd := .high s.now } }) ∧
      (∀ (bs : List Byte) (since : Nat), s.link.framer = .receiving bs since →
        (bs.length = 1 → (ch.toNat < 2 ∨ 250 < ch.toNat) →
          exec (.characterReceived ch) s =
            .next { s with link := { s.link with
              framer := .hunting, framingErrors := min (s.link.framingErrors + 1) 65535
              rxd := .high s.now } }) ∧
        (¬ (bs.length = 1 ∧ (ch.toNat < 2 ∨ 250 < ch.toNat)) → 512 ≤ s.link.bufferBytes →
          exec (.characterReceived ch) s =
            .next { s with link := { s.link with
              framer := .hunting, overruns := min (s.link.overruns + 1) 65535
              rxd := .high s.now } }) ∧
        (¬ (bs.length = 1 ∧ (ch.toNat < 2 ∨ 250 < ch.toNat)) → s.link.bufferBytes < 512 →
          (bs ++ [ch]).length ≠ ((bs ++ [ch]).getD 1 0).toNat + 4 →
          exec (.characterReceived ch) s =
            .next { s with link := { s.link with
              framer := .receiving (bs ++ [ch]) s.now, rxd := .high s.now } })))

/-- The faults of the receiver, each with its count: a failed CHECK, a LEN out of range, a gap of 5,000 µs, a
character fault and an overrun. After a character fault the UART receives nothing for one character time, the whole
microseconds of one bit time of RXD high and the nine to a stop bit (DEDUCED, assumption 23), and RXD can have been
low since the character's start bit (DEDUCED, assumption 21). A fault whose condition does not hold changes nothing
(assumption 6): a LEN in 2..250, or a framer that does not stand at LEN; an overrun with room in the buffer, or of a
character that is not stored; a gap of less than 5,000 µs; and any of them while the UART receives nothing. A LEN out
of range is a framing error whatever the buffer holds (DEDUCED, assumption 18). -/
def Obligations.ReceiverFaults : Prop :=
  ∀ s : State, s.held = false → s.link.settled →
    (s.hearing →
      exec .crcError s = .next { s with link := { s.link with
        framer := .hunting, crcErrors := min (s.link.crcErrors + 1) 65535
        rxd := .high s.now } } ∧
      exec .characterFault s = .next { s with link := { s.link with
        framer := .hunting, framingErrors := min (s.link.framingErrors + 1) 65535
        deafUntil := s.now + s.link.rate.deafTime
        rxd := .low (max (match s.link.rxd with | .high time => time | .low since => since)
          (s.now - s.link.rate.faultSpan)) } } ∧
      (∀ len : Byte, len.toNat < 2 ∨ 250 < len.toNat →
        ((∃ ch since, s.link.framer = .receiving [ch] since) ∨
          (s.link.framer = .hunting ∧ s.link.bufferBytes < 512)) →
        exec (.lenOutOfRange len) s = .next { s with link := { s.link with
          framer := .hunting, framingErrors := min (s.link.framingErrors + 1) 65535
          rxd := .high s.now } }) ∧
      (∀ ch : Byte, 512 ≤ s.link.bufferBytes →
        (s.link.framer = .hunting ∧ ch = 0xC3 ∨
          ∃ bs since, s.link.framer = .receiving bs since ∧
            ¬ (bs.length = 1 ∧ (ch.toNat < 2 ∨ 250 < ch.toNat))) →
        exec (.overrun ch) s = .next { s with link := { s.link with
          framer := .hunting, overruns := min (s.link.overruns + 1) 65535
          rxd := .high s.now } }) ∧
      (∀ len : Byte, 2 ≤ len.toNat ∧ len.toNat ≤ 250 ∨
          (∃ bs since, s.link.framer = .receiving bs since ∧ bs.length ≠ 1) ∨
          (s.link.framer = .hunting ∧ 512 ≤ s.link.bufferBytes) →
        exec (.lenOutOfRange len) s = .next s) ∧
      (∀ ch : Byte, s.link.bufferBytes < 512 ∨ (s.link.framer = .hunting ∧ ch ≠ 0xC3) ∨
          (∃ bs since, s.link.framer = .receiving bs since ∧ bs.length = 1 ∧
            (ch.toNat < 2 ∨ 250 < ch.toNat)) →
        exec (.overrun ch) s = .next s)) ∧
    (¬ s.hearing →
      exec .crcError s = .next s ∧ exec .characterFault s = .next s ∧
      (∀ len : Byte, exec (.lenOutOfRange len) s = .next s) ∧
      (∀ ch : Byte, exec (.overrun ch) s = .next s)) ∧
    (∀ (bs : List Byte) (since : Nat), s.link.framer = .receiving bs since →
      since + 5000 ≤ s.now →
      exec .frameGapTimeout s = .next { s with link := { s.link with
        framer := .hunting, framingErrors := min (s.link.framingErrors + 1) 65535 } }) ∧
    (∀ (bs : List Byte) (since : Nat), s.link.framer = .receiving bs since →
      s.now < since + 5000 → exec .frameGapTimeout s = .next s) ∧
    (s.link.framer = .hunting → exec .frameGapTimeout s = .next s)

/-- The arrival of a valid frame: in ACTIVE it renews the lease; a request frame waits behind those waiting; an
acknowledgement whose one byte is the number of the in-flight notice removes that notice, and any other is ignored.
A frame that a line break or a character fault keeps out does not arrive. That a frame for which the buffer has no
room beside the waiting frames does not arrive, and that the bytes of a partial frame make way for one that does, is
the model's (assumptions 9, 18 and 23); so is what is kept of RXD, high at the last stop bit (assumption 21). -/
def Obligations.FrameArrivals : Prop :=
  ∀ (s : State) (f : Frame), s.held = false → s.link.settled →
    (∀ (seq : Byte) (body : List Byte),
      exec (.ack seq body) s = exec (.validFrameArrival seq 0x70 body) s) ∧
    (f.body.length ≤ 248 → s.hearing →
      (s.link.waiting.map Frame.size).sum + f.size ≤ 512 →
      (f.kind ≠ 0x70 →
        exec (.validFrameArrival f.seq f.kind f.body) s = .next { s with
          session := s.session.renewedAt s.now
          link := { s.link with framer := .hunting, rxd := .high s.now, waiting := s.link.waiting ++ [f] } }) ∧
      (∀ (n : Notice) (rest : List Notice), f.kind = 0x70 → s.link.notices = n :: rest →
        n.number ≠ 0 → f.body = [n.number] →
        exec (.validFrameArrival f.seq f.kind f.body) s = .next { s with
          session := s.session.renewedAt s.now
          link := ({ s.link with
            framer := .hunting, rxd := .high s.now, notices := rest
            inFlight := freshInFlight rest }).arbitrate s.now }) ∧
      (f.kind = 0x70 → (∀ n ∈ s.link.notices.head?, n.number ≠ 0 → f.body ≠ [n.number]) →
        exec (.validFrameArrival f.seq f.kind f.body) s = .next { s with
          session := s.session.renewedAt s.now
          link := { s.link with framer := .hunting, rxd := .high s.now } })) ∧
    (248 < f.body.length ∨ ¬ s.hearing ∨
        512 < (s.link.waiting.map Frame.size).sum + f.size →
      exec (.validFrameArrival f.seq f.kind f.body) s = .next s)

/-- A line break, once RXD can have been low without interruption for 2,000 µs, empties the receive buffer and the
reply cache, and holds the in-flight notice with its count at 0; its end makes that notice due at once, and the UART
receives from the next start bit, a character time later at the earliest. There is no break while the last thing known
of RXD is a character received, nor within 2,000 µs of the end of a break, of a start-up reset, or of the start bit of
a character fault (DEDUCED, assumptions 21 and 23). -/
def Obligations.LineBreaks : Prop :=
  ∀ s : State, s.held = false → s.link.settled →
    (∀ since : Nat, s.link.breakSince = none → s.link.rxd = .low since → since + 2000 ≤ s.now →
      exec .lineBreak s = .next { s with link := { s.link with
        framer := .hunting, waiting := [], cache := none
        inFlight := ⟨0, s.link.inFlight.due, none⟩, breakSince := some s.now } }) ∧
    (s.link.breakSince ≠ none ∨ (∃ time, s.link.rxd = .high time) ∨
        (∃ since, s.link.rxd = .low since ∧ s.now < since + 2000) →
      exec .lineBreak s = .next s) ∧
    (s.link.breakSince ≠ none →
      exec .lineBreakEnd s = .next { s with link := ({ s.link with
        breakSince := none, rxd := .low s.now, deafUntil := s.now + s.link.rate.deafTime
        inFlight := freshInFlight s.link.notices }).arbitrate s.now }) ∧
    (s.link.breakSince = none → exec .lineBreakEnd s = .next s)

/-! ### The link: notices and the transmitter -/

/-- The delivery of the in-flight notice: the end of a transmission, n character times after its beginning for a
frame of n bytes and not before, sets its retransmission time 50,000 µs later; at that time it is due again, or after
its fourth transmission it is dropped and counted lost. An end between two values of the clock may be taken at either
(the model's choice, assumption 10). -/
def Obligations.NoticeDelivery : Prop :=
  ∀ s : State, s.held = false → s.link.settled →
    (∀ (f : Frame) (since : Nat), s.link.tx = .notice f since →
      s.now < since + f.size * 10000000 / s.link.rate.baud →
      exec .noticeTransmissionEnd s = .next s) ∧
    (∀ (f : Frame) (since : Nat), s.link.tx = .notice f since →
      since + f.size * 10000000 / s.link.rate.baud ≤ s.now →
      (∀ (n : Notice) (rest : List Notice), s.link.notices = n :: rest → n.number = f.seq →
        s.link.inFlight.due = false → s.link.inFlight.count ≠ 0 →
        exec .noticeTransmissionEnd s = .next { s with link := ({ s.link with
          tx := .idle
          inFlight := ⟨s.link.inFlight.count, false, some (s.now + 50000)⟩ }).arbitrate s.now }) ∧
      ((∀ n ∈ s.link.notices.head?, n.number ≠ f.seq) ∨ s.link.inFlight.due = true ∨
          s.link.inFlight.count = 0 →
        exec .noticeTransmissionEnd s = .next { s with
          link := ({ s.link with tx := .idle }).arbitrate s.now })) ∧
    (∀ t : Nat, s.link.inFlight.retransmitAt = some t → s.link.breakSince = none → t ≤ s.now →
      (s.link.inFlight.count < 4 →
        exec .retransmissionTime s = .next { s with link := ({ s.link with
          inFlight := ⟨s.link.inFlight.count, true, none⟩ }).arbitrate s.now }) ∧
      (4 ≤ s.link.inFlight.count →
        exec .retransmissionTime s = .next { s with link := ({ s.link with
          notices := s.link.notices.tail
          inFlight := freshInFlight s.link.notices.tail
          lost := min (s.link.lost + 1) 65535, lossMark := true }).arbitrate s.now })) ∧
    ((∀ t ∈ s.link.inFlight.retransmitAt, s.now < t) ∨ s.link.breakSince ≠ none →
      exec .retransmissionTime s = .next s)

/-- A block's request to enqueue a notice: dropped in NO_SESSION; else numbered and enqueued, in flight at once
when the queue was empty; or discarded and counted lost when the queue holds 12. -/
def Obligations.NoticeEnqueue : Prop :=
  ∀ (s : State) (content : NoticeContent),
    (s.session.state = .noSession → s.enqueue content = s) ∧
    (s.session.state ≠ .noSession → s.link.notices.length < 12 →
      s.enqueue content = { s with link := { s.link with
        notices := s.link.notices ++ [⟨s.link.nextNumber, s.link.lossMark, content⟩]
        inFlight := if s.link.notices = [] then ⟨0, true, none⟩ else s.link.inFlight
        nextNumber := if s.link.nextNumber = 255 then 1 else s.link.nextNumber + 1
        lossMark := false } }) ∧
    (s.session.state ≠ .noSession → 12 ≤ s.link.notices.length →
      s.enqueue content = { s with link := { s.link with
        lost := min (s.link.lost + 1) 65535, lossMark := true } }) ∧
    s.attnAsserted = decide (s.link.notices ≠ [])

/-- The transmitter's choice: a busy TXD keeps its frame; an idle one begins the one frame that is ready, or, of
a reply and a notice, the notice after a reply and the reply otherwise; a notice begun counts a
transmission. The bytes of each notice, and the level of TXD: high while idle, else a low start bit, 8 data bits, the
least significant first, and a high stop bit for each byte of the frame, the frame beginning with the value of the
clock at which it is chosen (the model's choice, assumption 10). -/
def Obligations.TransmitterChoice : Prop :=
  (∀ content : NoticeContent,
    (content.kind, content.bytes) =
      (match content with
        | .actionDone r => ((0xF0 : Byte), r.bytes)
        | .triggerFired k firings time =>
          (0xF1, oneByte k.val :: leBytes 4 firings.toNat ++ timeBytes time)
        | .journalReady held oldest => (0xF2, leBytes 2 held ++ leBytes 4 oldest.toNat)
        | .leaseWarning ms => (0xF3, leBytes 2 ms)
        | .failsafeEntered cause time => (0xF4, cause.code :: timeBytes time)
        | .storeDone op slot result => (0xF5, [op.code, profileField slot, result.code]))) ∧
  (∀ r : OutcomeRecord, r.bytes =
    leBytes 2 r.id ++ [match r.outcome with
      | .applied => (0 : Byte) | .skipped => 1 | .expired => 2 | .cancelled _ => 3
      | .orphaned _ => 4 | .aborted => 5]
    ++ timeBytes r.completion ++ leBytes 2 r.applied ++ leBytes 2 r.skipped
    ++ (match r.outcome with
      | .cancelled .host => [(1 : Byte), 0]
      | .cancelled .hostGroup => [2, 0]
      | .cancelled (.trigger k) => [3, oneByte k.val]
      | .cancelled .close => [4, 0]
      | .orphaned id => leBytes 2 id
      | .applied | .skipped | .expired | .aborted => [0, 0])) ∧
  (∀ (l : Link) (now : Nat),
    (l.tx = .idle → l.txd now = .high) ∧
    (∀ (f : Frame) (since n k : Nat) (b : Byte), l.tx = .reply f since ∨ l.tx = .notice f since →
      (now - since) * l.rate.baud / 1000000 = 10 * n + k → k < 10 → f.bytes[n]? = some b →
      l.txd now =
        if k = 0 then .low else if k = 9 then .high
        else if b.getLsbD (k - 1) then .high else .low)) ∧
  ∀ (l : Link) (now : Nat) (r : Frame) (n : Notice) (rest : List Notice),
    (l.tx ≠ .idle → l.arbitrate now = l) ∧
    (l.tx = .idle →
      (l.reply = none → l.inFlight.due = false ∨ l.breakSince ≠ none ∨ l.notices = [] →
        l.arbitrate now = l) ∧
      (l.reply = some r → l.inFlight.due = false ∨ l.breakSince ≠ none ∨ l.notices = [] →
        l.arbitrate now = { l with tx := .reply r now, reply := none, lastSent := .reply }) ∧
      (l.notices = n :: rest → l.inFlight.due = true → l.breakSince = none →
        (l.reply = none ∨ l.lastSent = .reply →
          l.arbitrate now = { l with
            tx := .notice ⟨n.number, n.content.kind, flagByte n.lostBefore :: n.content.bytes⟩ now
            inFlight := ⟨l.inFlight.count + 1, false, none⟩, lastSent := .notice }) ∧
        (l.reply = some r → l.lastSent ≠ .reply →
          l.arbitrate now = { l with tx := .reply r now, reply := none, lastSent := .reply })))

/-! ### The taking of requests -/

/-- A request that finds a request being answered, or frames waiting before it, waits behind them and gets no reply
yet; one that is waiting already, and one that cannot arrive, changes nothing (assumptions 7, 18, 21 and 23). A
request taken while TXD carries a notice has the effect that it has on an idle TXD: the two states are alike but for
the transmitter, which on the idle TXD chooses what to begin and on the busy one keeps the notice, with the reply
ready behind it. A duplicate, a frame whose SEQ is not 0 and whose SEQ and KIND are those of the reply cache, gets
the cached reply again, and nothing is executed. -/
def Obligations.WaitingAndDuplicateRequests : Prop :=
  (∀ (l : Link) (f : Frame),
    (l.answering = true ↔ l.reply ≠ none ∨ ∃ r since, l.tx = .reply r since) ∧
    (∀ r, l.cached f = some r ↔ f.seq ≠ 0 ∧ l.cache = some ⟨f.seq, f.kind, r⟩)) ∧
  (∀ (c : Instr) (f : Frame) (s : State), c.frame? = some f → c.wellFormed = true →
    s.held = false → s.link.settled →
    (f ∉ s.link.waiting → s.hearing →
      (s.link.waiting.map Frame.size).sum + f.size ≤ 512 →
      s.link.waiting ≠ [] ∨ s.link.answering = true →
      exec c s = .next { s with
        session := s.session.renewedAt s.now
        link := { s.link with
          framer := .hunting, rxd := .high s.now, waiting := s.link.waiting ++ [f] } }) ∧
    (f ∈ s.link.waiting → s.link.waiting.head? ≠ some f ∨ s.link.answering = true →
      exec c s = .next s) ∧
    (f ∉ s.link.waiting → ¬ s.hearing ∨
        512 < (s.link.waiting.map Frame.size).sum + f.size → exec c s = .next s)) ∧
  (∀ (c : Instr) (f n : Frame) (s : State) (since : Nat), c.frame? = some f → c.wellFormed = true →
    s.takes f → s.link.tx = .notice n since →
    ∃ (t : State) (r : Frame), t.link.tx = .notice n since ∧ t.link.reply = some r ∧
      t.link.lastSent = s.link.lastSent ∧ t.now = s.now ∧ exec c s = .next t ∧
      exec c { s with link := { s.link with tx := .idle } } =
        .next { t with link := ({ t.link with tx := .idle }).arbitrate s.now }) ∧
  (∀ (c : Instr) (f r : Frame) (s : State), c.frame? = some f → c.wellFormed = true → s.free f →
    f.seq ≠ 0 → s.link.cache = some ⟨f.seq, f.kind, r⟩ → exec c s = .next (s.replying f r))

/-- Checks 1 to 5 on a request that is no duplicate, in their order; the first that fails gives a reply of
its status alone, and nothing else is changed. A frame of an unknown kind (`unknownRequest`) gets UNKNOWN_KIND
so, which is its whole effect. The KIND of each request (10.2), and the body length of each kind (R193): a fixed
one, one that the count byte as carried gives, or that of a profile record. -/
def Obligations.RefusalOrder : Prop :=
  (requestKinds = [0x01, 0x02, 0x03, 0x08, 0x09, 0x0A, 0x0B, 0x0C, 0x10, 0x11, 0x12, 0x13, 0x14, 0x15,
      0x16, 0x18, 0x20, 0x21, 0x22, 0x23, 0x30, 0x31, 0x32, 0x33, 0x34, 0x35, 0x40, 0x41, 0x42, 0x43,
      0x44, 0x50, 0x51, 0x52, 0x53, 0x54, 0x55, 0x56, 0x57, 0x58] ∧
    ∀ (seq : Byte) (body : List Byte),
      ([Instr.identify, .status, .reset, .openSession, .renew, .close, .failsafeNow, .recover,
        .configureLines, .setBase, .setFailsafe, .pinLines, .unpinLines, .readLevels, .readLine,
        .setFilterClasses, .readJournal, .releaseJournal, .clearJournal, .setJournal, .submitAction,
        .cancelAction, .cancelGroup, .queryAction, .listSchedule, .readOutcomes, .defineTrigger,
        .armTrigger, .disarmTrigger, .deleteTrigger, .readTrigger, .beginProfile, .appendRecord,
        .capture, .abandonProfile, .commitProfile, .loadProfile, .eraseProfile, .setBootSlot,
        .readProfile].map fun c => (c seq body).frame?) =
        requestKinds.map fun kind => some ⟨seq, kind, body⟩) ∧
  (∀ (c : Instr) (f : Frame), c.frame? = some f →
    (c.wellFormed = true ↔ f.body.length ≤ 248 ∧
      (c.isKnownRequest = true ∨ f.kind ≠ 0x70 ∧ f.kind ∉ requestKinds))) ∧
  (∀ body : List Byte,
    (∀ x ∈ ([(0x01, 0), (0x02, 0), (0x03, 0), (0x08, 2), (0x09, 3), (0x0A, 1), (0x0B, 0), (0x0C, 2),
        (0x15, 0), (0x16, 1), (0x18, 8), (0x20, 6), (0x21, 4), (0x22, 0), (0x23, 2), (0x31, 3),
        (0x32, 2), (0x33, 2), (0x34, 2), (0x35, 1), (0x40, 29), (0x41, 1), (0x42, 2), (0x43, 1),
        (0x44, 2), (0x50, 1), (0x52, 0), (0x53, 0), (0x54, 0), (0x55, 1), (0x56, 1), (0x57, 1),
        (0x58, 2)] : List (Byte × Nat)),
      lengthFits x.1 body = true ↔ body.length = x.2) ∧
    (∀ x ∈ ([(0x10, 1, 0, 6), (0x11, 1, 0, 2), (0x12, 1, 0, 2), (0x13, 1, 0, 6), (0x14, 2, 1, 1),
        (0x30, 32, 31, 2)] : List (Byte × Nat × Nat × Nat)),
      lengthFits x.1 body = true ↔ ∃ count : Byte, body[x.2.2.1]? = some count ∧
        body.length = x.2.1 + x.2.2.2 * count.toNat) ∧
    (lengthFits 0x51 body = true ↔ ∃ (kind len : Byte) (rest : List Byte),
      body = kind :: len :: rest ∧ rest.length = len.toNat ∧
      (kind = 1 → ∃ count : Byte, rest[1]? = some count ∧ len.toNat = 2 + 5 * count.toNat) ∧
      (kind = 2 → len = 8) ∧ (kind = 3 → len = 2) ∧ (kind = 4 → len = 30) ∧
      (kind = 5 → 1 ≤ len.toNat ∧ len.toNat ≤ 32))) ∧
  ([Status.noSession, .failsafe, .alreadyOpen].map Status.code = [0x20, 0x21, 0x22]) ∧
  (∀ s : State, (s.starting = true ↔ s.store.bootResult = .inProgress) ∧
    (s.store.operation.isLoading = true ↔ ∃ p started, s.store.operation = .loading p started)) ∧
  ∀ (c : Instr) (f : Frame) (s : State), c.frame? = some f → c.wellFormed = true → s.quiet f →
    (s.starting = true → f.kind ≠ 0x01 → exec c s = .next (s.refusing f 0x24 [])) ∧
    (s.starting = false ∨ f.kind = 0x01 →
      (c.isKnownRequest = false → exec c s = .next (s.refusing f 0x10 [])) ∧
      (c.isKnownRequest = true → lengthFits f.kind f.body = false →
        exec c s = .next (s.refusing f 0x11 [])) ∧
      (c.isKnownRequest = true → lengthFits f.kind f.body = true →
        (∀ st, c.sessionRefusal s.session.state = some st →
          exec c s = .next (s.refusing f st.code [])) ∧
        (c.sessionRefusal s.session.state = none → s.store.operation.isLoading = true →
          c.refusedLoading = true → exec c s = .next (s.refusing f 0x61 []))))

/-! ### Session and part requests -/

/-- IDENTIFY and STATUS are answered OK with the values of R188 and R148 in the layouts of 10.5, and change
nothing. The slot that STATUS gives for a boot-slot write is the value written (DEDUCED, assumption 16). The codes of
10.3 in them: the session state, the failsafe cause, the cause set (bit 0 LEASE, bit 1 REQUEST, bit 2 LINE), the reset
cause, the boot result, the profile slot field, the store operation, its result, and the operation state with its
slot. -/
def Obligations.IdentifyAndStatusReplies : Prop :=
  ([SessionState.noSession, .active, .failsafe].map SessionState.code = [0, 1, 2] ∧
    [FailsafeCause.lease, .request, .line].map FailsafeCause.code = [1, 2, 3] ∧
    (∀ r : FailsafeRecord, r.causeByte.toNat =
      (if r.hasLease then 1 else 0) + (if r.hasRequest then 2 else 0) + (if r.hasLine then 4 else 0)) ∧
    [ResetCause.power, .line, .request, .clock].map ResetCause.code = [0, 1, 2, 3] ∧
    [BootResult.inProgress, .loaded, .none, .empty, .corrupt].map BootResult.code = [0, 1, 2, 3, 4] ∧
    [StoreOp.commit, .load, .erase, .setBootSlot].map StoreOp.code = [1, 2, 3, 4] ∧
    [StoreResult.ok, .storeFault, .corrupt, .aborted].map StoreResult.code = [0, 1, 2, 3] ∧
    profileField none = 0xFF ∧ (∀ p : ProfileNo, (profileField (some p)).toNat = p.val) ∧
    (∀ (p : ProfileNo) (value : Option ProfileNo) (n : CopyNo) (g : Serial) (a b : Nat) (second : Bool),
      [Operation.none, .committing p n g a b, .loading p a, .erasing p n a second,
        .bootWrite value n g a b].map (fun o => (o.code, o.slot)) =
        [(0, none), (1, some p), (2, some p), (3, some p), (4, value)])) ∧
  (∀ (s : State) (seq : Byte), s.passes (.identify seq []) ⟨seq, 0x01, []⟩ →
    exec (.identify seq []) s = .next (s.serving ⟨seq, 0x01, []⟩ 0x00
      ([0x71, 0x3B, 0x28, 0x04, 0x01, s.resetCause.code, s.store.bootResult.code,
          profileField s.store.bootSlot, oneByte (s.store.label.getD []).length]
        ++ (s.store.label.getD [] ++ List.replicate 32 0).take 32 ++ timeBytes s.now))) ∧
  (∀ (s : State) (seq : Byte), s.passes (.status seq []) ⟨seq, 0x02, []⟩ →
    exec (.status seq []) s = .next (s.serving ⟨seq, 0x02, []⟩ 0x00
      ([s.session.state.code] ++ leBytes 2 s.session.number.toNat ++ leBytes 2 s.session.lease
        ++ leBytes 4 (match (s.received ⟨seq, 0x02, []⟩).session.deadline with
            | some d => d - s.now
            | none => 0)
        ++ (match s.session.record with
            | some r => [(1 : Byte), r.first.code, r.causeByte] ++ timeBytes r.time
            | none => List.replicate 9 (0 : Byte))
        ++ [if s.session.safeN.asserted then (1 : Byte) else 0] ++ timeBytes s.now
        ++ [oneByte s.schedule.entries.length, oneByte s.schedule.outcomes.length]
        ++ leBytes 2 s.journal.records.length
        ++ leBytes 4 (match s.journal.records with
            | r :: _ => r.seq.toNat
            | [] => s.journal.nextSeq.toNat)
        ++ [oneByte s.link.notices.length] ++ leBytes 2 s.link.lost ++ leBytes 2 s.link.crcErrors
        ++ leBytes 2 s.link.framingErrors ++ leBytes 2 s.link.overruns
        ++ [s.store.operation.code, profileField s.store.operation.slot]
        ++ (match s.store.lastResult with
            | some r => [(1 : Byte), r.op.code, profileField r.slot, r.result.code] ++ timeBytes r.time
            | none => List.replicate 10 (0 : Byte)))))

/-- OPEN with a lease in range begins a session. RENEW restarts the lease timer and arms the warning, with the lease
it carries or the one in force. A lease out of range and a layout out of order are refused BAD_VALUE. -/
def Obligations.OpenAndRenewSession : Prop :=
  (∀ (s : State) (seq : Byte) (body : List Byte) (ms : Nat),
    s.passes (.openSession seq body) ⟨seq, 0x08, body⟩ → ms = leNat body →
    (ms = 0 ∨ (10 ≤ ms ∧ ms ≤ 60000) →
      exec (.openSession seq body) s = .next
        { s.serving ⟨seq, 0x08, body⟩ 0x00
            (leBytes 2 (s.session.number + 1).toNat ++ leBytes 2 ms) with
          session := { s.session with
            state := .active, number := s.session.number + 1, lease := ms
            deadline := if ms = 0 then none else some (s.now + ms * 1000)
            warning := if ms < 100 then none else some (s.now + ms * 750) } }) ∧
    (¬ (ms = 0 ∨ (10 ≤ ms ∧ ms ≤ 60000)) →
      exec (.openSession seq body) s = .next (s.refusing ⟨seq, 0x08, body⟩ 0x12 []))) ∧
  (∀ (s : State) (seq carried : Byte) (leaseBytes : List Byte) (ms : Nat),
    s.passes (.renew seq (carried :: leaseBytes)) ⟨seq, 0x09, carried :: leaseBytes⟩ →
    (ms = (if carried = 1 then leNat leaseBytes else s.session.lease) →
      (carried = 1 ∧ (ms = 0 ∨ (10 ≤ ms ∧ ms ≤ 60000))) ∨ (carried = 0 ∧ leNat leaseBytes = 0) →
      exec (.renew seq (carried :: leaseBytes)) s = .next
        { s.serving ⟨seq, 0x09, carried :: leaseBytes⟩ 0x00
            (leBytes 2 ms ++ leBytes 4 (ms * 1000)) with
          session := { s.session with
            lease := ms
            deadline := if ms = 0 then none else some (s.now + ms * 1000)
            warning := if ms < 100 then none else some (s.now + ms * 750) } }) ∧
    ((1 < carried.toNat ∨ (carried = 0 ∧ leNat leaseBytes ≠ 0) ∨
        (carried = 1 ∧ ¬ (leNat leaseBytes = 0 ∨
          (10 ≤ leNat leaseBytes ∧ leNat leaseBytes ≤ 60000)))) →
      exec (.renew seq (carried :: leaseBytes)) s =
        .next (s.refusing ⟨seq, 0x09, carried :: leaseBytes⟩ 0x12 [])))

/-- CLOSE ends the session, empties the notice queue and discards a staging list; in mode CLEAR every entry
leaves CANCELLED by CLOSE, every slot stands down and every PIN, TRIGGER and SCHEDULE claim goes. Another mode
is refused BAD_VALUE. A list that is being committed is not discarded. -/
def Obligations.CloseSession : Prop :=
  (∀ (p : ProfileNo) (rs : List ProfileRecord),
    [Staging.idle, .staging p rs, .committing p rs].map Staging.discard =
      [.idle, .idle, .committing p rs]) ∧
  ∀ (s : State) (seq mode : Byte), s.passes (.close seq [mode]) ⟨seq, 0x0A, [mode]⟩ →
    (mode = 0 →
      exec (.close seq [mode]) s = .next (s.closedKeeping ⟨seq, 0x0A, [mode]⟩)) ∧
    (mode = 1 → s.schedule.outcomes.length ≤ 16 →
      exec (.close seq [mode]) s = .next
        { s.closedKeeping ⟨seq, 0x0A, [mode]⟩ with
          lines := Vector.ofFn fun i =>
            { s.lines[i] with
              claims := { s.lines[i].claims with pin := none, trigger := none, schedule := none }
              refs := s.lines[i].refs - s.schedule.entries.countP (·.action.names i) }
          schedule := { s.schedule with
            entries := []
            outcomes := lastSixteen (s.schedule.outcomes ++
              (scheduleOrder s.schedule.entries).map fun e =>
                ⟨e.action.id, .cancelled .close, s.now, e.applied, e.skipped⟩) }
          slots := Vector.ofFn fun k => { s.slots[k] with phase := .idle } }) ∧
    (1 < mode.toNat →
      exec (.close seq [mode]) s = .next (s.refusing ⟨seq, 0x0A, [mode]⟩ 0x12 []))

/-- FAILSAFE NOW is a failsafe entry with cause REQUEST, answered OK with the entry time; the reply and the
notices of the entry are sent as the transmitter chooses. That it chooses at the end of the event, with the reply and
the entry's notice both ready, is the model's reading (DEDUCED, assumption 22). -/
def Obligations.FailsafeNow : Prop :=
  ∀ (s : State) (seq : Byte), s.passes (.failsafeNow seq []) ⟨seq, 0x0B, []⟩ →
    s.schedule.outcomes.length ≤ 16 →
    ∃ link ∈ (s.received ⟨seq, 0x0B, []⟩).entryLinks .request,
      exec (.failsafeNow seq []) s = .next
        (({ (s.received ⟨seq, 0x0B, []⟩).enteredFailsafe .request with link := link }).answered
          ⟨seq, 0x0B, []⟩ 0x00 (timeBytes s.now))

/-- RECOVER removes every FAILSAFE claim and begins the next session with the lease it carries; it is refused
BAD_VALUE for a lease out of range and SAFE_ASSERTED while SAFE_N is asserted. -/
def Obligations.RecoverSession : Prop :=
  ∀ (s : State) (seq : Byte) (body : List Byte) (ms : Nat),
    s.passes (.recover seq body) ⟨seq, 0x0C, body⟩ → ms = leNat body →
    (¬ (ms = 0 ∨ (10 ≤ ms ∧ ms ≤ 60000)) →
      exec (.recover seq body) s = .next (s.refusing ⟨seq, 0x0C, body⟩ 0x12 [])) ∧
    (ms = 0 ∨ (10 ≤ ms ∧ ms ≤ 60000) →
      (s.session.safeN.asserted = true →
        exec (.recover seq body) s = .next (s.refusing ⟨seq, 0x0C, body⟩ 0x23 [])) ∧
      (s.session.safeN.asserted = false →
        exec (.recover seq body) s = .next
          { s.serving ⟨seq, 0x0C, body⟩ 0x00
              (leBytes 2 (s.session.number + 1).toNat ++ leBytes 2 ms) with
            session := { s.session with
              state := .active, number := s.session.number + 1, lease := ms
              deadline := if ms = 0 then none else some (s.now + ms * 1000)
              warning := if ms < 100 then none else some (s.now + ms * 750) }
            lines := Vector.ofFn fun i =>
              { s.lines[i] with claims := { s.lines[i].claims with failsafe := none } } }))

/-! ### Line requests -/

/-- CONFIGURE LINES gives every listed line its configuration as one change, and is refused LINE_IN_USE, naming
the first such line, when a mode change meets a line in use; a list out of range is refused BAD_VALUE. What the first
sample of a line whose sensing starts finds at its pin is the model's choice (assumption 8): LOW or HIGH where the
circuit outside holds the pin so, and on a pull-up the part's own drive, or HIGH when it drives nothing. -/
def Obligations.ConfigureLines : Prop :=
  (∀ drive : Option Level, pinLevel .holdsLow drive = .low ∧ pinLevel .holdsHigh drive = .high ∧
    pinLevel .pullUp drive = (match drive with | some level => level | none => .high)) ∧
  ∀ (s : State) (seq : Byte) (body : List Byte),
    s.passes (.configureLines seq body) ⟨seq, 0x10, body⟩ →
    (parseConfigureLines body = none →
      exec (.configureLines seq body) s = .next (s.refusing ⟨seq, 0x10, body⟩ 0x12 [])) ∧
    (∀ xs, parseConfigureLines body = some xs →
      (∀ x, xs.find? (fun x => s.lines[x.line].blocks x.config) = some x →
        exec (.configureLines seq body) s =
          .next (s.refusing ⟨seq, 0x10, body⟩ 0x30 [oneByte x.line.val])) ∧
      ((∀ x ∈ xs, s.lines[x.line].blocks x.config = false) →
        exec (.configureLines seq body) s = .next
          { s.serving ⟨seq, 0x10, body⟩ 0x00 [] with
            lines := Vector.ofFn fun i =>
              match xs.find? (fun x => decide (x.line = i)) with
              | some x => s.lines[i].configured x.config
              | none => s.lines[i] }))

/-- SET BASE sets the base level and the BASE claim of every listed line, and SET FAILSAFE its failsafe spec, as
one change; each is refused BAD_TARGET, naming the first line that is no output line, and BAD_VALUE for a list
out of range. -/
def Obligations.SetBaseAndFailsafe : Prop :=
  (∀ (s : State) (seq : Byte) (body : List Byte), s.passes (.setBase seq body) ⟨seq, 0x11, body⟩ →
    (parseSetBase body = none →
      exec (.setBase seq body) s = .next (s.refusing ⟨seq, 0x11, body⟩ 0x12 [])) ∧
    (∀ xs, parseSetBase body = some xs →
      (∀ x, xs.find? (fun x => !s.lines[x.line].isOutput) = some x →
        exec (.setBase seq body) s =
          .next (s.refusing ⟨seq, 0x11, body⟩ 0x31 [oneByte x.line.val])) ∧
      ((∀ x ∈ xs, s.lines[x.line].isOutput = true) →
        exec (.setBase seq body) s = .next
          { s.serving ⟨seq, 0x11, body⟩ 0x00 [] with
            lines := Vector.ofFn fun i =>
              match xs.find? (fun x => decide (x.line = i)) with
              | some x => { s.lines[i] with
                  config := { s.lines[i].config with base := x.level }
                  claims := { s.lines[i].claims with base := some ⟨x.level, .none, none⟩ } }
              | none => s.lines[i] }))) ∧
  (∀ (s : State) (seq : Byte) (body : List Byte),
    s.passes (.setFailsafe seq body) ⟨seq, 0x12, body⟩ →
    (parseSetFailsafe body = none →
      exec (.setFailsafe seq body) s = .next (s.refusing ⟨seq, 0x12, body⟩ 0x12 [])) ∧
    (∀ xs, parseSetFailsafe body = some xs →
      (∀ x, xs.find? (fun x => !s.lines[x.line].isOutput) = some x →
        exec (.setFailsafe seq body) s =
          .next (s.refusing ⟨seq, 0x12, body⟩ 0x31 [oneByte x.line.val])) ∧
      ((∀ x ∈ xs, s.lines[x.line].isOutput = true) →
        exec (.setFailsafe seq body) s = .next
          { s.serving ⟨seq, 0x12, body⟩ 0x00 [] with
            lines := Vector.ofFn fun i =>
              match xs.find? (fun x => decide (x.line = i)) with
              | some x => { s.lines[i] with config := { s.lines[i].config with failsafe := x.spec } }
              | none => s.lines[i] })))

/-- PIN LINES places a PIN claim on every listed line, with its expiry, and replies the pin time; UNPIN LINES
removes the PIN claims of the listed lines, or of all, and replies their number. Each is refused BAD_TARGET,
naming the first listed line that is no output line, and BAD_VALUE for a layout or a list out of range. -/
def Obligations.PinAndUnpinLines : Prop :=
  (∀ (s : State) (seq : Byte) (body : List Byte), s.passes (.pinLines seq body) ⟨seq, 0x13, body⟩ →
    (parsePinLines body = none →
      exec (.pinLines seq body) s = .next (s.refusing ⟨seq, 0x13, body⟩ 0x12 [])) ∧
    (∀ xs, parsePinLines body = some xs →
      (∀ x, xs.find? (fun x => !s.lines[x.line].isOutput) = some x →
        exec (.pinLines seq body) s =
          .next (s.refusing ⟨seq, 0x13, body⟩ 0x31 [oneByte x.line.val])) ∧
      ((∀ x ∈ xs, s.lines[x.line].isOutput = true) →
        exec (.pinLines seq body) s = .next
          { s.serving ⟨seq, 0x13, body⟩ 0x00 (timeBytes s.now) with
            lines := Vector.ofFn fun i =>
              match xs.find? (fun x => decide (x.line = i)) with
              | some x => { s.lines[i] with
                  claims := { s.lines[i].claims with
                    pin := some ⟨x.level, .none, x.duration.map (s.now + ·)⟩ } }
              | none => s.lines[i] }))) ∧
  (∀ (s : State) (seq : Byte) (body : List Byte),
    s.passes (.unpinLines seq body) ⟨seq, 0x14, body⟩ →
    (parseUnpinLines body = none →
      exec (.unpinLines seq body) s = .next (s.refusing ⟨seq, 0x14, body⟩ 0x12 [])) ∧
    (∀ is, parseUnpinLines body = some (.list is) →
      (∀ i, is.find? (fun i => !s.lines[i].isOutput) = some i →
        exec (.unpinLines seq body) s =
          .next (s.refusing ⟨seq, 0x14, body⟩ 0x31 [oneByte i.val])) ∧
      ((∀ i ∈ is, s.lines[i].isOutput = true) →
        exec (.unpinLines seq body) s = .next
          { s.serving ⟨seq, 0x14, body⟩ 0x00
              [oneByte (is.countP fun i => s.lines[i].claims.pin.isSome)] with
            lines := Vector.ofFn fun i =>
              if i ∈ is then { s.lines[i] with claims := { s.lines[i].claims with pin := none } }
              else s.lines[i] })) ∧
    (parseUnpinLines body = some .all →
      exec (.unpinLines seq body) s = .next
        { s.serving ⟨seq, 0x14, body⟩ 0x00
            [oneByte ((List.finRange 40).countP fun i => s.lines[i].claims.pin.isSome)] with
          lines := Vector.ofFn fun i =>
            { s.lines[i] with claims := { s.lines[i].claims with pin := none } } }))

/-- READ LEVELS gives the request time and, bit by bit, the sensed and the effective level of every line; READ
LINE gives one line's configuration, reference count, levels, winning class, glitch count and claims in rank
order, and then clears the glitch count. Neither changes anything else. The sensed level of an INPUT or SINK line
is its filtered level, that of a DRIVE line its effective level, and that of a PARK line LOW. The codes of 10.3 in
them: level, mode (with the output and the sensed modes), journal sense, failsafe spec, claim class and claim origin;
an optional time has a presence flag and 6 bytes, all 0 when it is absent (R194). -/
def Obligations.ReadLines : Prop :=
  ([Level.low, .high].map Level.code = [0, 1] ∧
    [Mode.park, .input, .drive, .sink].map (fun m => (m.code, m.isOutput, m.isSensed)) =
      [(0, false, false), (1, false, true), (2, true, false), (3, true, true)] ∧
    [Sense.none, .rise, .fall, .both].map Sense.code = [0, 1, 2, 3] ∧
    [FailsafeSpec.base, .low, .high, .hold].map FailsafeSpec.code = [0, 1, 2, 3] ∧
    [ClaimClass.failsafe, .pin, .trigger, .schedule, .base].map ClaimClass.code = [1, 2, 3, 4, 5] ∧
    (∀ (id : Nat) (k : SlotNo), [Origin.none, .action id, .slot k].map Origin.bytes =
      [[0, 0], leBytes 2 id, [oneByte k.val, 0]]) ∧
    optTimeBytes none = [0, 0, 0, 0, 0, 0, 0] ∧
    (∀ t : Nat, optTimeBytes (some t) = 1 :: leBytes 6 (min t (2 ^ 48 - 1)))) ∧
  (∀ c : ClaimSet, c.ranked =
    [(ClaimClass.failsafe, c.failsafe), (.pin, c.pin), (.trigger, c.trigger), (.schedule, c.schedule),
      (.base, c.base)].filterMap fun x => x.2.map fun claim => (x.1, claim)) ∧
  (∀ l : Line,
    (l.isOutput = l.config.mode.isOutput ∧ l.isSensed = l.config.mode.isSensed) ∧
    (l.config.mode = .park → l.sensedLevel = .low) ∧
    (∀ level, l.config.mode = .drive → l.effective = some level → l.sensedLevel = level) ∧
    (∀ f, l.config.mode = .input ∨ l.config.mode = .sink → l.filter = some f →
      l.sensedLevel = f.filtered)) ∧
  (∀ (s : State) (seq : Byte), s.passes (.readLevels seq []) ⟨seq, 0x15, []⟩ →
    ∃ content : List Byte,
      exec (.readLevels seq []) s = .next (s.serving ⟨seq, 0x15, []⟩ 0x00 content) ∧
      content.length = 16 ∧ content.take 6 = timeBytes s.now ∧
      (∀ i : LineNo, (content.getD (6 + i.val / 8) 0).getLsbD (i.val % 8) =
        decide (s.lines[i].sensedLevel = .high)) ∧
      (∀ i : LineNo, (content.getD (11 + i.val / 8) 0).getLsbD (i.val % 8) =
        decide (s.lines[i].effective = some .high))) ∧
  (∀ (s : State) (seq number : Byte), s.passes (.readLine seq [number]) ⟨seq, 0x16, [number]⟩ →
    (∀ i : LineNo, i.val = number.toNat →
      exec (.readLine seq [number]) s = .next
        { s.serving ⟨seq, 0x16, [number]⟩ 0x00
            ([number, s.lines[i].config.mode.code, s.lines[i].config.base.code,
                oneByte s.lines[i].config.cls.val, s.lines[i].config.sense.code,
                s.lines[i].config.failsafe.code, oneByte s.lines[i].refs,
                s.lines[i].sensedLevel.code, (s.lines[i].effective.getD .low).code,
                (match s.lines[i].winningClass with | some c => c.code | none => 0),
                oneByte s.lines[i].glitches, oneByte s.lines[i].claims.ranked.length]
              ++ s.lines[i].claims.ranked.flatMap fun x =>
                [x.1.code, x.2.level.code] ++ x.2.origin.bytes ++ optTimeBytes x.2.expiry) with
          lines := s.lines.set i { s.lines[i] with glitches := 0 } }) ∧
    (40 ≤ number.toNat →
      exec (.readLine seq [number]) s = .next (s.refusing ⟨seq, 0x16, [number]⟩ 0x12 [])))

/-- SET FILTER CLASSES replaces the four settle times, changes nothing else and replies those that were in force,
so a settle in progress keeps the settle time it began with; it is taken in ACTIVE alone, and refused LOADING
while a LOAD is in flight. -/
def Obligations.SetFilterClasses : Prop :=
  ∀ (s : State) (seq : Byte) (a b c d : Nat) (body : List Byte) (f : Frame),
    a < 65536 → b < 65536 → c < 65536 → d < 65536 →
    body = leBytes 2 a ++ leBytes 2 b ++ leBytes 2 c ++ leBytes 2 d → f = ⟨seq, 0x18, body⟩ →
    (s.passes (.setFilterClasses seq body) f →
      exec (.setFilterClasses seq body) s = .next
        { s.serving f 0x00
            (leBytes 2 s.settleTimes[0] ++ leBytes 2 s.settleTimes[1] ++ leBytes 2 s.settleTimes[2]
              ++ leBytes 2 s.settleTimes[3]) with
          settleTimes := #v[a, b, c, d] }) ∧
    (s.quiet f → s.starting = false →
      (s.session.state = .noSession →
        exec (.setFilterClasses seq body) s = .next (s.refusing f 0x20 [])) ∧
      (s.session.state = .failsafe →
        exec (.setFilterClasses seq body) s = .next (s.refusing f 0x21 [])) ∧
      (s.session.state = .active → s.store.operation.isLoading = true →
        exec (.setFilterClasses seq body) s = .next (s.refusing f 0x61 [])))

/-! ### The journal -/

/-- READ JOURNAL replies the held count, the oldest sequence number and the records from the start, as many as
the maximum count and the 248 bytes of a body allow, and arms the ready notice again; a start that no held
record carries is NOT_FOUND, and a layout out of range BAD_VALUE. The bytes of an EDGE record and of a GAP record, each
time in 6 bytes and no higher than the clock's last value. -/
def Obligations.ReadJournal : Prop :=
  (∀ (q : Serial) (i : LineNo) (direction : Direction) (a b c : Nat) (bank : Byte) (isOpen : Bool),
    [JournalRecord.edge q i direction a bank, .gap q a b c isOpen].map JournalRecord.seq = [q, q]) ∧
  (∀ r : JournalRecord, r.bytes = match r with
    | .edge q i direction onset bank =>
      leBytes 4 q.toNat ++ [0, oneByte i.val, match direction with | .rise => 0 | .fall => 1]
        ++ leBytes 6 (min onset (2 ^ 48 - 1)) ++ [bank]
    | .gap q lost first last isOpen =>
      leBytes 4 q.toNat ++ [1, if isOpen then 1 else 0] ++ leBytes 4 lost
        ++ leBytes 6 (min first (2 ^ 48 - 1)) ++ leBytes 6 (min last (2 ^ 48 - 1))) ∧
  ∀ (s : State) (seq : Byte) (body : List Byte), s.passes (.readJournal seq body) ⟨seq, 0x20, body⟩ →
    (parseReadJournal body = none →
      exec (.readJournal seq body) s = .next (s.refusing ⟨seq, 0x20, body⟩ 0x12 [])) ∧
    (∀ count start, parseReadJournal body = some (count, start) →
      (∀ q, start = some q → (∀ r ∈ s.journal.records, r.seq ≠ q) →
        exec (.readJournal seq body) s = .next (s.refusing ⟨seq, 0x20, body⟩ 0x44 [])) ∧
      (∀ earlier run, s.journal.records = earlier ++ run →
        (start = none ∧ earlier = [] ∨
          (∃ r rs, run = r :: rs ∧ start = some r.seq ∧ ∀ x ∈ earlier, x.seq ≠ r.seq)) →
        ∃ given rest : List JournalRecord, run.take count = given ++ rest ∧
          (given.map (·.bytes.length)).sum ≤ 240 ∧
          (∀ r ∈ rest.head?, 240 < (given.map (·.bytes.length)).sum + r.bytes.length) ∧
          exec (.readJournal seq body) s = .next
            { s.serving ⟨seq, 0x20, body⟩ 0x00
                (leBytes 2 s.journal.records.length
                  ++ leBytes 4 (match s.journal.records with
                    | r :: _ => r.seq.toNat
                    | [] => s.journal.nextSeq.toNat)
                  ++ [oneByte given.length] ++ given.flatMap (·.bytes)) with
              journal := { s.journal with armed := true } }))

/-- RELEASE JOURNAL removes the records from the oldest through the one named, or is NOT_FOUND; CLEAR JOURNAL
removes all and arms the ready notice again; SET JOURNAL replaces the threshold. -/
def Obligations.ReleaseClearAndSetJournal : Prop :=
  (∀ (s : State) (seq : Byte) (body : List Byte) (q : Serial), q = BitVec.ofNat 32 (leNat body) →
    s.passes (.releaseJournal seq body) ⟨seq, 0x21, body⟩ →
    ((∀ r ∈ s.journal.records, r.seq ≠ q) →
      exec (.releaseJournal seq body) s = .next (s.refusing ⟨seq, 0x21, body⟩ 0x44 [])) ∧
    (∀ earlier r later, s.journal.records = earlier ++ r :: later → r.seq = q →
      (∀ x ∈ earlier, x.seq ≠ q) →
      exec (.releaseJournal seq body) s = .next
        { s.serving ⟨seq, 0x21, body⟩ 0x00
            (leBytes 2 (earlier.length + 1) ++ leBytes 2 later.length) with
          journal := { s.journal with records := later } })) ∧
  (∀ (s : State) (seq : Byte), s.passes (.clearJournal seq []) ⟨seq, 0x22, []⟩ →
    exec (.clearJournal seq []) s = .next
      { s.serving ⟨seq, 0x22, []⟩ 0x00 (leBytes 2 s.journal.records.length) with
        journal := { s.journal with records := [], armed := true } }) ∧
  (∀ (s : State) (seq : Byte) (body : List Byte) (t : Nat), t = leNat body →
    s.passes (.setJournal seq body) ⟨seq, 0x23, body⟩ →
    (1 ≤ t ∧ t ≤ 256 →
      exec (.setJournal seq body) s = .next
        { s.serving ⟨seq, 0x23, body⟩ 0x00 (leBytes 2 s.journal.threshold) with
          journal := { s.journal with threshold := t } }) ∧
    (t < 1 ∨ 256 < t →
      exec (.setJournal seq body) s = .next (s.refusing ⟨seq, 0x23, body⟩ 0x12 [])))

/-- A journaled edge: an EDGE record while fewer than 255 records are held, which closes an open GAP; a new open
GAP at 255 records; and an edge counted into an open GAP that is the newest of 255 or 256 records; then the
ready check. An edge that the line's journal sense does not select leaves the part as it is; the senses NONE, RISE,
FALL and BOTH select by the table of R47. The oldest sequence number of an empty journal is the next one. -/
def Obligations.JournalTakesEdge : Prop :=
  (∀ j : Journal,
    j.oldest = (match j.records with | r :: _ => r.seq | [] => j.nextSeq) ∧
    (j.openGapNewest = true ↔ ∃ earlier q lost first last,
      j.records = earlier ++ [.gap q lost first last true])) ∧
  (∀ (sense : Sense) (direction : Direction), sense.journals direction = true ↔
    sense = .both ∨ (sense = .rise ∧ direction = .rise) ∨ (sense = .fall ∧ direction = .fall)) ∧
  ∀ (s : State) (e : Edge),
    (s.lines[e.line].config.sense.journals e.direction = false → s.takeJournalEdge e = s) ∧
    (s.lines[e.line].config.sense.journals e.direction = true →
      ∃ bank : Byte,
        (∀ k : Fin 8, ∀ i : LineNo, i.val = 8 * (e.line.val / 8) + k.val →
          bank.getLsbD k.val = decide (s.lines[i].sensedLevel = .high)) ∧
        (s.journal.records.length < 255 → s.journal.openGapNewest = false →
          s.takeJournalEdge e = s.journaled { s.journal with
            records := s.journal.records ++
              [.edge s.journal.nextSeq e.line e.direction e.onset bank]
            nextSeq := s.journal.nextSeq + 1 }) ∧
        (255 ≤ s.journal.records.length → s.journal.openGapNewest = false →
          s.takeJournalEdge e = s.journaled { s.journal with
            records := s.journal.records ++ [.gap s.journal.nextSeq 1 e.onset e.onset true]
            nextSeq := s.journal.nextSeq + 1 }) ∧
        (∀ earlier q lost first last,
          s.journal.records = earlier ++ [.gap q lost first last true] →
          (s.journal.records.length < 255 →
            s.takeJournalEdge e = s.journaled { s.journal with
              records := earlier ++ [.gap q lost first last false,
                .edge s.journal.nextSeq e.line e.direction e.onset bank]
              nextSeq := s.journal.nextSeq + 1 }) ∧
          (255 ≤ s.journal.records.length →
            s.takeJournalEdge e = s.journaled { s.journal with
              records := earlier ++ [.gap q (min (lost + 1) 4294967295) first e.onset true] })))

/-- Every step keeps the laws of the journal. -/
def Obligations.JournalLawsKept : Prop :=
  ∀ s t : State, s.journal.lawful → step s = .next t → t.journal.lawful

/-! ### The schedule -/

/-- SUBMIT ACTION: the first check of R62 that fails refuses it; otherwise the action is admitted at the end of
the admission order, TIMED at its due time or WAITING_PRED, with a reference more on each line it names, as a
target or as its guard line. -/
def Obligations.SubmitAction : Prop :=
  (∀ (a : Action) (i : LineNo), a.names i = true ↔
    (∃ t ∈ a.targets, t.line = i) ∨ ∃ g ∈ a.guard, g.line = i) ∧
  ∀ (s : State) (seq : Byte) (body : List Byte), s.passes (.submitAction seq body) ⟨seq, 0x30, body⟩ →
    (parseSubmit body = none →
      exec (.submitAction seq body) s = .next (s.refusing ⟨seq, 0x30, body⟩ 0x12 [])) ∧
    (∀ x, parseSubmit body = some x →
      (∀ status addition, s.submissionRefusal x = some (status, addition) →
        exec (.submitAction seq body) s =
          .next (s.refusing ⟨seq, 0x30, body⟩ status addition)) ∧
      (∀ due, s.submissionRefusal x = none →
        due = (match x.due with
          | some (.absolute t) => some t
          | some (.relative d) => some (s.now + d)
          | none => none) →
        exec (.submitAction seq body) s = .next
          { s.serving ⟨seq, 0x30, body⟩ 0x00
              (leBytes 4 s.schedule.counter.toNat ++ optTimeBytes due) with
            schedule := { s.schedule with
              entries := s.schedule.entries ++ [⟨x.action, s.schedule.counter,
                match due with | some t => .timed t | none => .waitingPred, 0, 0, none⟩]
              counter := s.schedule.counter + 1 }
            lines := Vector.ofFn fun i =>
              if x.action.names i then { s.lines[i] with refs := s.lines[i].refs + 1 }
              else s.lines[i] }))

/-- A queued entry leaves a lawful schedule: after APPLIED its dependents become TIMED at the application time
plus their offsets; after any other outcome they leave ORPHANED, depth first. The dependents of an entry are those in
WAITING_PRED that name its id as their predecessor. -/
def Obligations.LeavingTheSchedule : Prop :=
  (∀ (e : Entry) (id : Nat), e.waitsFor id = true ↔
    e.state = .waitingPred ∧ ∃ c ∈ e.action.chain, c.predecessor = id) ∧
  ∀ (s : State) (queued e : Entry), s.schedule.lawful → queued ∈ s.schedule.entries →
    e.action = queued.action →
    (∀ o : EntryOutcome, o ≠ .applied →
      s.leave e o = s.left ((e, o) ::
        orphansOf s.schedule.entries.length s.schedule.entries e.action.id)) ∧
    s.leave e .applied =
      { s.left [(e, .applied)] with
        schedule := { (s.left [(e, .applied)]).schedule with
          entries := (s.left [(e, .applied)]).schedule.entries.map fun d =>
            match d.state, d.action.chain with
            | .waitingPred, some c =>
              if c.predecessor = e.action.id then { d with state := .timed (s.now + c.offset) }
              else d
            | _, _ => d } }

/-- CANCEL ACTION makes the entry of the id leave CANCELLED by HOST, with its chain, and with the release flag
removes the SCHEDULE claims of that id. CANCEL GROUP, and the cancel group of a firing, make the entries of the group
leave CANCELLED, one after another in schedule order, each followed by its chain, which leaves ORPHANED depth first; an
entry that has left so before its turn is passed over, and CANCEL GROUP counts both kinds and with the release flag
removes the SCHEDULE claims of those CANCELLED. Ids and groups out of range are BAD_VALUE, and an id that is not queued
is NOT_FOUND. The order on TXD of the reply and of an ACTION_DONE made ready in the same event is the model's reading
(DEDUCED, assumption 22). -/
def Obligations.CancelRequests : Prop :=
  (∀ (s : State) (seq : Byte) (body : List Byte),
    s.passes (.cancelAction seq body) ⟨seq, 0x31, body⟩ →
    (parseCancelAction body = none →
      exec (.cancelAction seq body) s = .next (s.refusing ⟨seq, 0x31, body⟩ 0x12 [])) ∧
    (∀ id release, parseCancelAction body = some (id, release) →
      (s.schedule.find id = none →
        exec (.cancelAction seq body) s = .next (s.refusing ⟨seq, 0x31, body⟩ 0x44 [])) ∧
      (∀ e t, s.schedule.find id = some e →
        t = (s.received ⟨seq, 0x31, body⟩).leave e (.cancelled .host) →
        exec (.cancelAction seq body) s = .next
          ((t.releasing release [id]).answered ⟨seq, 0x31, body⟩ 0x00
            (leBytes 2 e.applied ++ leBytes 2 e.skipped ++
              [oneByte (s.schedule.entries.length - t.schedule.entries.length - 1),
                oneByte (if release then
                    (List.finRange 40).countP fun i => t.lines[i].scheduledBy [id]
                  else 0)]))))) ∧
  (∀ (s : State) (seq : Byte) (body : List Byte),
    s.passes (.cancelGroup seq body) ⟨seq, 0x32, body⟩ →
    (parseCancelGroup body = none →
      exec (.cancelGroup seq body) s = .next (s.refusing ⟨seq, 0x32, body⟩ 0x12 [])) ∧
    (∀ group release, parseCancelGroup body = some (group, release) →
      (∃ t, exec (.cancelGroup seq body) s = .next t ∧
        (∀ e ∈ t.schedule.entries, e.action.group ≠ group) ∧
        t.schedule.entries.Sublist s.schedule.entries) ∧
      (∀ ls ids t, s.schedule.lawful → s.schedule.outcomes.length ≤ 16 →
        ls = s.groupLeavings group .hostGroup → ids = cancelledIds .hostGroup ls →
        t = (s.received ⟨seq, 0x32, body⟩).left ls →
        exec (.cancelGroup seq body) s = .next
          ((t.releasing release ids).answered ⟨seq, 0x32, body⟩ 0x00
            [oneByte ids.length, oneByte (ls.length - ids.length),
              oneByte (if release then
                  (List.finRange 40).countP fun i => t.lines[i].scheduledBy ids
                else 0)])))) ∧
  (∀ (s : State) (k : SlotNo) (d : TriggerDef), s.schedule.lawful →
    s.schedule.outcomes.length ≤ 16 → d.cancelGroup ≠ 0 →
    s.groupCancelled k d = s.left (s.groupLeavings d.cancelGroup (.trigger k)))

/-- QUERY ACTION, LIST SCHEDULE and READ OUTCOMES reply from the schedule in the layouts of 10.5; READ OUTCOMES
with the clear flag then empties the outcome list, and nothing else changes. Schedule order has every entry: where one
stands before another, the other has no due time, or both have one and that of the first is not the later; entries of
equal due time, and those in WAITING_PRED, stand as they were admitted. The codes of 10.3: the entry state, which also
says which times an entry has, and the outcome with its detail (R197). An id finds the queued entry that has it. -/
def Obligations.ScheduleReads : Prop :=
  (∀ due deadline : Nat, [EntryState.timed due, .guardWait due deadline, .waitingPred].map
    (fun x => (x.code, x.due, x.deadline)) =
      [(0, some due, none), (1, some due, some deadline), (2, none, none)]) ∧
  (∀ (cause : CancelCause) (id : Nat),
    [EntryOutcome.applied, .skipped, .expired, .cancelled cause, .orphaned id, .aborted].map
      (fun o => (o.code, o.detail)) =
      [((0 : Byte), [(0 : Byte), 0]), (1, [0, 0]), (2, [0, 0]),
        (3, match cause with
          | .host => [1, 0] | .hostGroup => [2, 0] | .trigger k => [3, oneByte k.val]
          | .close => [4, 0]),
        (4, leBytes 2 id), (5, [0, 0])]) ∧
  (∀ (c : Schedule) (id : Nat),
    (c.find id = none ↔ ∀ e ∈ c.entries, e.action.id ≠ id) ∧
    (∀ e, c.find id = some e → e ∈ c.entries ∧ e.action.id = id)) ∧
  (∀ (s : State) (seq : Byte) (body : List Byte) (id : Nat), id = leNat body →
    s.passes (.queryAction seq body) ⟨seq, 0x33, body⟩ →
    (id = 0 → exec (.queryAction seq body) s = .next (s.refusing ⟨seq, 0x33, body⟩ 0x12 [])) ∧
    (id ≠ 0 → s.schedule.find id = none →
      exec (.queryAction seq body) s = .next (s.refusing ⟨seq, 0x33, body⟩ 0x44 [])) ∧
    (∀ e, id ≠ 0 → s.schedule.find id = some e →
      exec (.queryAction seq body) s = .next (s.serving ⟨seq, 0x33, body⟩ 0x00
        (e.state.code :: leBytes 4 e.admission.toNat ++
          [oneByte e.action.group, if e.action.notify then 1 else 0] ++
          optTimeBytes e.state.due ++ optTimeBytes e.state.deadline ++
          (match e.action.chain with
            | some c => (1 : Byte) :: leBytes 2 c.predecessor
            | none => [0, 0, 0]) ++
          leBytes 2 e.applied ++ leBytes 2 e.skipped ++ leBytes 4 (e.applied + e.skipped) ++
          leBytes 2 (match e.action.rep with
            | none => 1
            | some r => if r.count = 0 then 0 else r.count - (e.applied + e.skipped)) ++
          optTimeBytes e.lastApplied)))) ∧
  (∀ (s : State) (seq start count : Byte),
    s.passes (.listSchedule seq [start, count]) ⟨seq, 0x34, [start, count]⟩ →
    (start.toNat ≤ 47 → 1 ≤ count.toNat → count.toNat ≤ 10 →
      ∃ given earlier later : List Entry,
        scheduleOrder s.schedule.entries = earlier ++ given ++ later ∧
        earlier.length = min start.toNat s.schedule.entries.length ∧
        given.length = min count.toNat (s.schedule.entries.length - start.toNat) ∧
        exec (.listSchedule seq [start, count]) s =
          .next (s.serving ⟨seq, 0x34, [start, count]⟩ 0x00
            ([oneByte s.schedule.entries.length, oneByte given.length] ++
              given.flatMap fun e =>
                leBytes 2 e.action.id ++ [e.state.code] ++ optTimeBytes e.state.due ++
                  [oneByte e.action.group] ++ leBytes 4 e.admission.toNat ++
                  leBytes 4 (e.applied + e.skipped)))) ∧
    (47 < start.toNat ∨ count.toNat < 1 ∨ 10 < count.toNat →
      exec (.listSchedule seq [start, count]) s =
        .next (s.refusing ⟨seq, 0x34, [start, count]⟩ 0x12 []))) ∧
  (∀ (s : State) (seq clear : Byte), s.passes (.readOutcomes seq [clear]) ⟨seq, 0x35, [clear]⟩ →
    (clear.toNat ≤ 1 →
      exec (.readOutcomes seq [clear]) s = .next
        { s.serving ⟨seq, 0x35, [clear]⟩ 0x00
            (oneByte s.schedule.outcomes.length :: s.schedule.outcomes.flatMap fun r =>
              leBytes 2 r.id ++ [r.outcome.code] ++ timeBytes r.completion ++
                leBytes 2 r.applied ++ leBytes 2 r.skipped ++ r.outcome.detail) with
          schedule := { s.schedule with
            outcomes := if clear = 1 then [] else s.schedule.outcomes } }) ∧
    (1 < clear.toNat →
      exec (.readOutcomes seq [clear]) s = .next (s.refusing ⟨seq, 0x35, [clear]⟩ 0x12 []))) ∧
  (∀ entries : List Entry,
    (scheduleOrder entries).Perm entries ∧
    (scheduleOrder entries).Pairwise (fun a b => b.state.due = none ∨
      ∃ x y : Nat, a.state.due = some x ∧ b.state.due = some y ∧ x ≤ y) ∧
    ∀ due : Option Nat, (scheduleOrder entries).filter (fun e => decide (e.state.due = due)) =
      entries.filter fun e => decide (e.state.due = due))

/-- The due arrival of the first TIMED entry whose time has come: applied when it has no guard or its guard is
true; else skipped, or put in GUARD_WAIT; an iteration that is not the last makes the entry TIMED one period
later, and the last makes it leave. The one iteration of an entry without a repeat is its last, that of a repeat is
the one that brings the iterations done to its count, and a repeat of count 0 has none. With no such entry nothing
changes. -/
def Obligations.DueArrival : Prop :=
  (∀ e : Entry,
    (e.action.rep = none → e.atLast = true) ∧
    (∀ r, e.action.rep = some r → e.period = r.period ∧
      (e.atLast = true ↔ r.count ≠ 0 ∧ r.count ≤ e.applied + e.skipped))) ∧
  ∀ s : State, s.held = false → s.link.settled →
    (∀ (earlier later : List Entry) (e : Entry) (due : Nat),
      scheduleOrder s.schedule.entries = earlier ++ e :: later →
      (∀ x ∈ earlier, ∀ d, x.state = .timed d → s.now < d) → e.state = .timed due → due ≤ s.now →
      ((∀ g ∈ e.action.guard, s.lines[g.line].sensedLevel = g.wanted) →
        ∀ done t, done = { e with
            applied := min (e.applied + 1) 65535, lastApplied := some s.now } →
          t = s.targeted .schedule (.action e.action.id) e.action.hold e.action.targets →
          (done.atLast = true →
            exec .dueArrival s = .next ({ t.leave done .applied with
              link := (t.leave done .applied).link.arbitrate s.now })) ∧
          (done.atLast = false →
            exec .dueArrival s = .next { t with schedule := { s.schedule with
              entries := s.schedule.entries.map fun x =>
                if x.action.id = e.action.id then { done with state := .timed (due + e.period) }
                else x } })) ∧
      (∀ g, e.action.guard = some g → s.lines[g.line].sensedLevel ≠ g.wanted →
        (g.mode = .skip →
          ∀ done, done = { e with skipped := min (e.skipped + 1) 65535 } →
            (∀ o, done.atLast = true → o = (if e.applied = 0 then .skipped else .applied) →
              exec .dueArrival s = .next ({ s.leave done o with
                link := (s.leave done o).link.arbitrate s.now })) ∧
            (done.atLast = false →
              exec .dueArrival s = .next { s with schedule := { s.schedule with
                entries := s.schedule.entries.map fun x =>
                  if x.action.id = e.action.id then { done with state := .timed (due + e.period) }
                  else x } })) ∧
        (∀ limit, g.mode = .wait limit →
          exec .dueArrival s = .next { s with schedule := { s.schedule with
            entries := s.schedule.entries.map fun x =>
              if x.action.id = e.action.id then { e with state := .guardWait due (due + limit) }
              else x } }))) ∧
    ((∀ e ∈ s.schedule.entries, ∀ d, e.state = .timed d → s.now < d) →
      exec .dueArrival s = .next s)

/-- The end of a guard wait: at its deadline the first such entry leaves EXPIRED; an edge of the guard line to the
wanted level applies every entry that waits for it at once, one after another in schedule order, and each leaves
APPLIED before the next is applied. -/
def Obligations.GuardWaitEnds : Prop :=
  (∀ s : State, s.held = false → s.link.settled →
    (∀ (earlier later : List Entry) (e : Entry) (due deadline : Nat),
      scheduleOrder s.schedule.entries = earlier ++ e :: later →
      (∀ x ∈ earlier, ∀ a b, x.state = .guardWait a b → s.now < b) →
      e.state = .guardWait due deadline → deadline ≤ s.now →
      exec .guardDeadline s = .next { s.leave e .expired with
        link := (s.leave e .expired).link.arbitrate s.now }) ∧
    ((∀ e ∈ s.schedule.entries, ∀ a b, e.state = .guardWait a b → s.now < b) →
      exec .guardDeadline s = .next s)) ∧
  (∀ (s : State) (edge : Edge),
    (∀ e : Entry, e.wantsEdge edge = true ↔
      ∃ due deadline g, e.state = .guardWait due deadline ∧ e.action.guard = some g ∧
        g.line = edge.line ∧
        (edge.direction = .rise ∧ g.wanted = .high ∨ edge.direction = .fall ∧ g.wanted = .low)) ∧
    ((∀ e ∈ s.schedule.entries, e.wantsEdge edge = false) → s.takeGuardEdge edge = s) ∧
    (s.schedule.lawful →
      s.takeGuardEdge edge =
        ((scheduleOrder s.schedule.entries).filter (·.wantsEdge edge)).foldl
          State.appliedWaiting s))

/-! ### Triggers -/

/-- DEFINE TRIGGER: the first check of R112 that fails refuses it; otherwise the slot takes the definition, becomes
DEFINED with its counters at 0, and the references of its old definition are exchanged for those of the new: the
watched line, the targets and the qualifier line. -/
def Obligations.DefineTrigger : Prop :=
  (∀ (d : TriggerDef) (slot : Slot) (i : LineNo),
    (d.names i = true ↔ d.watched = i ∨ (∃ t ∈ d.targets, t.line = i) ∨
      ∃ q ∈ d.qualifier, q.line = i) ∧
    (slot.names i = true ↔ ∃ old ∈ slot.definition, old.names i = true)) ∧
  ∀ (s : State) (seq : Byte) (body : List Byte),
    s.passes (.defineTrigger seq body) ⟨seq, 0x40, body⟩ →
    (parseTriggerDef body = none →
      exec (.defineTrigger seq body) s = .next (s.refusing ⟨seq, 0x40, body⟩ 0x12 [])) ∧
    (∀ k d, parseTriggerDef body = some (k, d) →
      (∀ status addition, s.definitionRefusal k d = some (status, addition) →
        exec (.defineTrigger seq body) s =
          .next (s.refusing ⟨seq, 0x40, body⟩ status addition)) ∧
      (s.definitionRefusal k d = none →
        exec (.defineTrigger seq body) s = .next
          { s.serving ⟨seq, 0x40, body⟩ 0x00 [1] with
            slots := s.slots.set k ⟨some d, .idle, 0, 0, 0⟩
            lines := Vector.ofFn fun i =>
              { s.lines[i] with
                refs := s.lines[i].refs - (if s.slots[k].names i then 1 else 0)
                  + (if d.names i then 1 else 0) } }))

/-- ARM TRIGGER arms a DEFINED slot and leaves any other as it is; DISARM TRIGGER stands a slot down and, with the
release flag, removes its claims; DELETE TRIGGER empties a slot, with its claims and references; each replies the
slot's state after it. READ TRIGGER replies a slot's state, definition, time and counters, and with the clear flag
then clears the counters. A slot or a flag out of range is BAD_VALUE. The slot states are coded as in 10.3, 0 EMPTY,
1 DEFINED, 2 ARMED, 3 PENDING and 4 HOLDOFF, and the last three are running; the definition is in the 29 bytes that
`RecordLayoutsRoundTrip` gives. -/
def Obligations.TriggerSlotRequests : Prop :=
  (∀ slot : Slot,
    (slot.definition = none → slot.code = 0 ∧ slot.running = false) ∧
    (slot.definition ≠ none →
      (slot.phase = .idle → slot.code = 1 ∧ slot.running = false) ∧
      (slot.phase = .armed → slot.code = 2 ∧ slot.running = true) ∧
      (∀ t, slot.phase = .pending t → slot.code = 3 ∧ slot.running = true) ∧
      (∀ t, slot.phase = .holdoff t → slot.code = 4 ∧ slot.running = true))) ∧
  (∀ (s : State) (seq number : Byte), s.passes (.armTrigger seq [number]) ⟨seq, 0x41, [number]⟩ →
    (16 ≤ number.toNat →
      exec (.armTrigger seq [number]) s = .next (s.refusing ⟨seq, 0x41, [number]⟩ 0x12 [])) ∧
    (∀ k : SlotNo, k.val = number.toNat →
      (s.slots[k].definition ≠ none → s.slots[k].phase = .idle →
        exec (.armTrigger seq [number]) s = .next
          { s.serving ⟨seq, 0x41, [number]⟩ 0x00 [2] with
            slots := s.slots.set k { s.slots[k] with phase := .armed } }) ∧
      (s.slots[k].definition = none ∨ s.slots[k].phase ≠ .idle →
        exec (.armTrigger seq [number]) s =
          .next (s.serving ⟨seq, 0x41, [number]⟩ 0x00 [s.slots[k].code])))) ∧
  (∀ (s : State) (seq number flag : Byte),
    s.passes (.disarmTrigger seq [number, flag]) ⟨seq, 0x42, [number, flag]⟩ →
    (16 ≤ number.toNat ∨ 2 ≤ flag.toNat →
      exec (.disarmTrigger seq [number, flag]) s =
        .next (s.refusing ⟨seq, 0x42, [number, flag]⟩ 0x12 [])) ∧
    (∀ (k : SlotNo) (release : Bool), k.val = number.toNat → flag.toNat ≤ 1 →
      release = decide (flag = 1 ∧ s.slots[k].definition ≠ none) →
      exec (.disarmTrigger seq [number, flag]) s = .next
        { s.serving ⟨seq, 0x42, [number, flag]⟩ 0x00
            [if s.slots[k].definition = none then 0 else 1,
              oneByte (if release then s.slotClaims k else 0)] with
          slots := s.slots.set k { s.slots[k] with phase := .idle }
          lines := (s.releasingSlot release k).lines })) ∧
  (∀ (s : State) (seq number : Byte),
    s.passes (.deleteTrigger seq [number]) ⟨seq, 0x43, [number]⟩ →
    (16 ≤ number.toNat →
      exec (.deleteTrigger seq [number]) s = .next (s.refusing ⟨seq, 0x43, [number]⟩ 0x12 [])) ∧
    (∀ (k : SlotNo) (release : Bool), k.val = number.toNat →
      release = decide (s.slots[k].definition ≠ none) →
      exec (.deleteTrigger seq [number]) s = .next
        { s.serving ⟨seq, 0x43, [number]⟩ 0x00
            [0, oneByte (if release then s.slotClaims k else 0)] with
          slots := s.slots.set k ⟨none, .idle, 0, 0, 0⟩
          lines := Vector.ofFn fun i =>
            { (s.releasingSlot release k).lines[i] with
              refs := s.lines[i].refs - (if s.slots[k].names i then 1 else 0) } })) ∧
  (∀ (s : State) (seq number flag : Byte),
    s.passes (.readTrigger seq [number, flag]) ⟨seq, 0x44, [number, flag]⟩ →
    (16 ≤ number.toNat ∨ 2 ≤ flag.toNat →
      exec (.readTrigger seq [number, flag]) s =
        .next (s.refusing ⟨seq, 0x44, [number, flag]⟩ 0x12 [])) ∧
    (∀ k : SlotNo, k.val = number.toNat → flag.toNat ≤ 1 →
      exec (.readTrigger seq [number, flag]) s = .next
        { s.serving ⟨seq, 0x44, [number, flag]⟩ 0x00
            (s.slots[k].code ::
              (match s.slots[k].definition with
                | some d => d.bytes k
                | none => List.replicate 29 (0 : Byte)) ++
              timeBytes (match s.slots[k].phase with
                | .pending t => t
                | .holdoff t => t
                | _ => 0) ++
              leBytes 4 s.slots[k].firings.toNat ++ leBytes 2 s.slots[k].suppressed ++
              leBytes 2 s.slots[k].unqualified ++ timeBytes s.now) with
          slots :=
            if flag = 1 then
              s.slots.set k { s.slots[k] with firings := 0, suppressed := 0, unqualified := 0 }
            else s.slots }))

/-- A watched edge offered to a slot, by the slot's state: it starts or restarts the delay, fires a slot without
one, or is counted unqualified or suppressed; a slot that does not watch it is left as it is. RISE selects RISE edges,
FALL selects FALL edges and EITHER both. An edge is offered to every slot, T0 to T15, the lowest first, each in the
state that the offer before it has left. A slot without a delay is never PENDING (R114), so that form is left out. That
the group cancel of a slot which the edge fires is taken within its turn, before the next slot's offer and notice and
before any other taking of the edge that follows the Trigger Unit's, is the model's choice (R83, R106 and R118 leave it
open; assumption 3). -/
def Obligations.WatchedEdge : Prop :=
  (∀ (choice : EdgeChoice) (direction : Direction), choice.selects direction = true ↔
    choice = .either ∨ (choice = .rise ∧ direction = .rise) ∨
      (choice = .fall ∧ direction = .fall)) ∧
  ∀ (s : State) (k : SlotNo) (e : Edge),
    ((∀ d, s.slots[k].definition = some d →
        d.watched ≠ e.line ∨ d.edge.selects e.direction = false) →
      State.offerEdge e s k = s) ∧
    (∀ d, s.slots[k].definition = some d → d.watched = e.line → d.edge.selects e.direction = true →
      (s.slots[k].phase = .idle → State.offerEdge e s k = s) ∧
      (s.slots[k].phase = .armed → s.qualifies d → d.delay = 0 →
        State.offerEdge e s k = s.fire k) ∧
      (s.slots[k].phase = .armed ∨ (∃ t, s.slots[k].phase = .pending t) ∧ d.policy = .restart →
        (s.qualifies d → d.delay ≠ 0 →
          State.offerEdge e s k = { s with
            slots := s.slots.set k { s.slots[k] with phase := .pending (e.qualified + d.delay) } }) ∧
        (¬ s.qualifies d →
          State.offerEdge e s k = { s with
            slots := s.slots.set k { s.slots[k] with
              unqualified := min (s.slots[k].unqualified + 1) 65535, phase := .armed } })) ∧
      ((∃ t, s.slots[k].phase = .pending t) ∧ d.policy = .ignore ∨
          (∃ t, s.slots[k].phase = .holdoff t) →
        State.offerEdge e s k = { s with
          slots := s.slots.set k { s.slots[k] with
            suppressed := min (s.slots[k].suppressed + 1) 65535 } })) ∧
    s.takeTriggerEdge e = (List.finRange 16).foldl (State.offerEdge e) s ∧
    ((∀ j : SlotNo, j ≠ k → ∀ d, s.slots[j].definition = some d →
        d.watched ≠ e.line ∨ d.edge.selects e.direction = false) →
      s.takeTriggerEdge e = State.offerEdge e s k)

/-- A firing: its targets are applied as one change, its group is cancelled and its notice asked for, in one of
the two orders (assumption 3), its firing count rises, and its slot takes the state of its mode. -/
def Obligations.TriggerFires : Prop :=
  ∀ (s : State) (k : SlotNo) (d : TriggerDef) (t : State), s.slots[k].definition = some d →
    t = s.targeted .trigger (.slot k) d.hold d.targets →
    ∃ u ∈ [(t.groupCancelled k d).firingNoted k d (s.slots[k].firings + 1),
        (t.firingNoted k d (s.slots[k].firings + 1)).groupCancelled k d],
      ∃ ix ∈ [s.freeIx, s.freeIx + 1],
        s.fire k = { u with
          slots := s.slots.set k (s.slots[k].fired d.mode s.now)
          freeIx := ix }

/-- The times of the trigger slots: the PENDING slots whose fire time has come fire one after another, the lowest
first, each in the state that the firing before it has left, and then the transmitter chooses; each fires once, and no
other slot changes; a holdoff that is over leaves its slot ARMED. That each slot's group cancel is taken before the next
slot fires and asks for its notice is the model's choice (R83 and R118 leave it open; assumption 3), so that the order
of those notices, and which of them a full queue loses, hold of the model's order alone. -/
def Obligations.TriggerTimes : Prop :=
  ∀ s : State, s.held = false → s.link.settled →
    (∃ t, exec .fireTime s = .next t ∧
      ∀ k : SlotNo, t.slots[k] =
        match s.slots[k].phase, s.slots[k].definition with
        | .pending time, some d =>
          if time ≤ s.now then s.slots[k].fired d.mode s.now else s.slots[k]
        | _, _ => s.slots[k]) ∧
    (∀ (due : List SlotNo) (t : State), due.Sublist (List.finRange 16) →
      (∀ k : SlotNo, k ∈ due ↔ ∃ time, s.slots[k].phase = .pending time ∧ time ≤ s.now) →
      t = due.foldl State.fire s →
      exec .fireTime s = .next { t with link := t.link.arbitrate s.now }) ∧
    (∀ (k : SlotNo) (time : Nat), s.slots[k].phase = .pending time → time ≤ s.now →
      (∀ j : SlotNo, j ≠ k → ∀ u, s.slots[j].phase = .pending u → s.now < u) →
      exec .fireTime s =
        .next { s.fire k with link := (s.fire k).link.arbitrate s.now }) ∧
    ((∀ (k : SlotNo) (u : Nat), s.slots[k].phase = .pending u → s.now < u) →
      exec .fireTime s = .next s) ∧
    (∀ (k : SlotNo) (time : Nat), s.slots[k].phase = .holdoff time → time ≤ s.now →
      exec (.holdoffEnd k) s =
        .next { s with slots := s.slots.set k { s.slots[k] with phase := .armed } }) ∧
    (∀ k : SlotNo, (∀ time, s.slots[k].phase = .holdoff time → s.now < time) →
      exec (.holdoffEnd k) s = .next s)

/-! ### The profile store -/

/-- BEGIN PROFILE, APPEND RECORD, CAPTURE and ABANDON PROFILE: each refusal in its order, and what each does to the
staging list. -/
def Obligations.StagingRequests : Prop :=
  (∀ (s : State) (seq number : Byte),
    s.passes (.beginProfile seq [number]) ⟨seq, 0x50, [number]⟩ →
    (4 ≤ number.toNat →
      exec (.beginProfile seq [number]) s = .next (s.refusing ⟨seq, 0x50, [number]⟩ 0x12 [])) ∧
    (∀ p : ProfileNo, p.val = number.toNat →
      (s.store.operation ≠ .none →
        exec (.beginProfile seq [number]) s =
          .next (s.refusing ⟨seq, 0x50, [number]⟩ 0x60 [])) ∧
      (s.store.operation = .none → s.store.staging ≠ .idle →
        exec (.beginProfile seq [number]) s =
          .next (s.refusing ⟨seq, 0x50, [number]⟩ 0x63 [])) ∧
      (s.store.operation = .none → s.store.staging = .idle →
        exec (.beginProfile seq [number]) s = .next
          { s.serving ⟨seq, 0x50, [number]⟩ 0x00 [] with
            store := { s.store with staging := .staging p [] } }))) ∧
  (∀ (s : State) (seq : Byte) (body : List Byte),
    s.passes (.appendRecord seq body) ⟨seq, 0x51, body⟩ →
    (parseAppendRecord body = none →
      exec (.appendRecord seq body) s = .next (s.refusing ⟨seq, 0x51, body⟩ 0x12 [])) ∧
    (∀ r, parseAppendRecord body = some r →
      (s.store.operation ≠ .none →
        exec (.appendRecord seq body) s = .next (s.refusing ⟨seq, 0x51, body⟩ 0x60 [])) ∧
      (s.store.operation = .none → (∀ p rs, s.store.staging ≠ .staging p rs) →
        exec (.appendRecord seq body) s = .next (s.refusing ⟨seq, 0x51, body⟩ 0x62 [])) ∧
      (∀ p rs, s.store.operation = .none → s.store.staging = .staging p rs →
        (32 ≤ rs.length →
          exec (.appendRecord seq body) s = .next (s.refusing ⟨seq, 0x51, body⟩ 0x64 [])) ∧
        (rs.length < 32 →
          exec (.appendRecord seq body) s = .next
            { s.serving ⟨seq, 0x51, body⟩ 0x00
                [oneByte rs.length, oneByte (rs.length + 1)] with
              store := { s.store with staging := .staging p (rs ++ [r]) } })))) ∧
  (∀ (s : State) (seq : Byte), s.passes (.capture seq []) ⟨seq, 0x52, []⟩ →
    (s.store.operation ≠ .none →
      exec (.capture seq []) s = .next (s.refusing ⟨seq, 0x52, []⟩ 0x60 [])) ∧
    (s.store.operation = .none → (∀ p rs, s.store.staging ≠ .staging p rs) →
      exec (.capture seq []) s = .next (s.refusing ⟨seq, 0x52, []⟩ 0x62 [])) ∧
    (∀ p rs, s.store.operation = .none → s.store.staging = .staging p rs →
      exec (.capture seq []) s = .next
        { s.serving ⟨seq, 0x52, []⟩ 0x00 [oneByte s.captured.length] with
          store := { s.store with staging := .staging p s.captured } })) ∧
  (∀ (s : State) (seq : Byte), s.passes (.abandonProfile seq []) ⟨seq, 0x53, []⟩ →
    (s.store.operation ≠ .none →
      exec (.abandonProfile seq []) s = .next (s.refusing ⟨seq, 0x53, []⟩ 0x60 [])) ∧
    (s.store.operation = .none → (∀ p rs, s.store.staging ≠ .staging p rs) →
      exec (.abandonProfile seq []) s = .next (s.refusing ⟨seq, 0x53, []⟩ 0x62 [])) ∧
    (∀ p rs, s.store.operation = .none → s.store.staging = .staging p rs →
      exec (.abandonProfile seq []) s = .next
        { s.serving ⟨seq, 0x53, []⟩ 0x00 [oneByte rs.length] with
          store := { s.store with staging := .idle } }))

/-- COMMIT PROFILE: the whole-profile validation, by the table of R160 and the mode that the first LINES record which
describes a line gives it, with the index of the first bad record; the start of the commit on the copy that is not
loadable, and its end, at 23 ms plus 1 ms a record with the copy VALID, or 1 ms earlier with
the copy INVALID when the verify step finds a difference. The choice among two copies: a write or an erase takes
first the copy that is not loadable, and a write gives the loadable generation plus 1; with no VALID copy, copy 0
and generation 1. Two VALID copies of equal generation are the model's free value (assumption 5) and no part of
this. -/
def Obligations.CommitProfile : Prop :=
  (∀ (all earlier : List ProfileRecord) (modeOf : LineNo → Mode),
    (∀ i : LineNo, modeOf i = (match profileConfig all i with | some c => c.mode | none => .park)) →
    (∀ first configs, (ProfileRecord.lines first configs).bad all earlier = true ↔
      ∃ (i other : LineNo) (others : List LineConfig), .lines other others ∈ earlier ∧
        first.val ≤ i.val ∧ i.val < first.val + configs.length ∧
        other.val ≤ i.val ∧ i.val < other.val + others.length) ∧
    (∀ times, (ProfileRecord.filters times).bad all earlier = true ↔ ∃ t, .filters t ∈ earlier) ∧
    (∀ n, (ProfileRecord.journal n).bad all earlier = true ↔ ∃ t, .journal t ∈ earlier) ∧
    (∀ cs, (ProfileRecord.label cs).bad all earlier = true ↔ ∃ t, .label t ∈ earlier) ∧
    (∀ k d arm, (ProfileRecord.trigger k d arm).bad all earlier = true ↔
      (∃ other armed, .trigger k other armed ∈ earlier) ∨
      (∃ t ∈ d.targets, modeOf t.line = .park ∨ modeOf t.line = .input) ∨
      (modeOf d.watched = .park ∨ modeOf d.watched = .drive) ∨
      (∃ q ∈ d.qualifier, modeOf q.line = .park ∨ modeOf q.line = .drive))) ∧
  (∀ (s : State) (seq : Byte), s.passes (.commitProfile seq []) ⟨seq, 0x54, []⟩ →
    (s.store.operation ≠ .none →
      exec (.commitProfile seq []) s = .next (s.refusing ⟨seq, 0x54, []⟩ 0x60 [])) ∧
    (s.store.operation = .none → (∀ p rs, s.store.staging ≠ .staging p rs) →
      exec (.commitProfile seq []) s = .next (s.refusing ⟨seq, 0x54, []⟩ 0x62 [])) ∧
    (∀ p rs, s.store.operation = .none → s.store.staging = .staging p rs →
      (rs = [] →
        exec (.commitProfile seq []) s = .next (s.refusing ⟨seq, 0x54, []⟩ 0x66 [0])) ∧
      (∀ good r rest, rs = good ++ r :: rest → r.bad rs good = true →
        (∀ early x late, good = early ++ x :: late → x.bad rs early = false) →
        exec (.commitProfile seq []) s =
          .next (s.refusing ⟨seq, 0x54, []⟩ 0x66 [oneByte good.length])) ∧
      (∀ (target : CopyNo) (generation : Serial), rs ≠ [] →
        (∀ early x late, rs = early ++ x :: late → x.bad rs early = false) →
        target = s.store.media.slots[p].target →
        generation = s.store.media.slots[p].nextGeneration →
        exec (.commitProfile seq []) s = .next
          { s.serving ⟨seq, 0x54, []⟩ 0x01 (target.code :: leBytes 4 generation.toNat) with
            store := { (s.withCopy p target .invalid).store with
              staging := .committing p rs
              operation := .committing p target generation s.now s.freeIx }
            freeIx := s.freeIx + 1 }))) ∧
  (∀ (s : State) (p : ProfileNo) (copy : CopyNo) (generation : Serial) (started draw n : Nat)
    (rs : List ProfileRecord), s.held = false → s.link.settled →
    s.store.operation = .committing p copy generation started draw →
    rs = s.store.staging.records → n = rs.length →
    (started + (20 + n + 2 + 1) * 1000 ≤ s.now →
      exec (.commitCompletion true) s = .next
        (({ s.withCopy p copy (.valid generation rs) with
            store := { (s.withCopy p copy (.valid generation rs)).store with
              staging := .idle } }).storeDone .commit (some p) .ok)) ∧
    (started + (20 + n + 2) * 1000 ≤ s.now →
      exec (.commitCompletion false) s = .next
        (({ s.withCopy p copy .invalid with
            store := { (s.withCopy p copy .invalid).store with
              staging := .idle } }).storeDone .commit (some p) .storeFault)) ∧
    (s.now < started + (20 + n + 2 + 1) * 1000 →
      exec (.commitCompletion true) s = .next s) ∧
    (s.now < started + (20 + n + 2) * 1000 →
      exec (.commitCompletion false) s = .next s)) ∧
  (∀ (α : Type) (pair : CopyPair α),
    (∀ g0 a0 g1 a1, pair = ⟨.valid g0 a0, .valid g1 a1⟩ → g0 ≠ g1 →
      (g1 = g0 + 1 ∨ (g0 ≠ g1 + 1 ∧ g0.toNat < g1.toNat) →
        pair.loadable = some (.copy1, g1, a1) ∧ pair.target = .copy0 ∧
          pair.nextGeneration = g1 + 1) ∧
      (¬ (g1 = g0 + 1 ∨ (g0 ≠ g1 + 1 ∧ g0.toNat < g1.toNat)) →
        pair.loadable = some (.copy0, g0, a0) ∧ pair.target = .copy1 ∧
          pair.nextGeneration = g0 + 1)) ∧
    (∀ g a, pair.copy0 = .valid g a → (∀ h b, pair.copy1 ≠ .valid h b) →
      pair.loadable = some (.copy0, g, a) ∧ pair.target = .copy1 ∧
        pair.nextGeneration = g + 1) ∧
    (∀ g a, pair.copy1 = .valid g a → (∀ h b, pair.copy0 ≠ .valid h b) →
      pair.loadable = some (.copy1, g, a) ∧ pair.target = .copy0 ∧
        pair.nextGeneration = g + 1) ∧
    ((∀ h b, pair.copy0 ≠ .valid h b) → (∀ h b, pair.copy1 ≠ .valid h b) →
      pair.loadable = none ∧ pair.target = .copy0 ∧ pair.nextGeneration = 1))

/-- LOAD PROFILE: its refusals in their order and its start; at the end of the read the whole profile is applied as
one change, or, when the check values differ, nothing is. What a profile sets: a line takes the configuration that the
first LINES record which describes it gives, and the settle times, the threshold, the label and each slot are those of
the first record of their kind, or of their slot; what stands in for a kind or a slot without a record is the factory
settle times, threshold 1, no label and an EMPTY slot. What the first sample of a line whose sensing starts finds at
its pin is the model's choice (assumption 8): LOW or HIGH where the circuit outside holds the pin so, and on a pull-up
the part's own drive, or HIGH when it drives nothing. -/
def Obligations.LoadProfile : Prop :=
  (∀ drive : Option Level, pinLevel .holdsLow drive = .low ∧ pinLevel .holdsHigh drive = .high ∧
    pinLevel .pullUp drive = (match drive with | some level => level | none => .high)) ∧
  (∀ (rs : List ProfileRecord) (i : LineNo),
    (∀ c, profileConfig rs i = some c ↔
      ∃ before first configs after, rs = before ++ .lines first configs :: after ∧
        (∀ other others, .lines other others ∈ before →
          ¬ (other.val ≤ i.val ∧ i.val < other.val + others.length)) ∧
        first.val ≤ i.val ∧ configs[i.val - first.val]? = some c) ∧
    (profileConfig rs i = none ↔
      ∀ first configs, .lines first configs ∈ rs →
        ¬ (first.val ≤ i.val ∧ i.val < first.val + configs.length))) ∧
  (∀ rs : List ProfileRecord,
    (∀ before times after, rs = before ++ .filters times :: after → (∀ t, .filters t ∉ before) →
      profileSettleTimes rs = times) ∧
    ((∀ t, .filters t ∉ rs) → profileSettleTimes rs = #v[0, 100, 1000, 10000]) ∧
    (∀ before n after, rs = before ++ .journal n :: after → (∀ t, .journal t ∉ before) →
      profileThreshold rs = n) ∧
    ((∀ t, .journal t ∉ rs) → profileThreshold rs = 1) ∧
    (∀ before cs after, rs = before ++ .label cs :: after → (∀ t, .label t ∉ before) →
      profileLabel rs = some cs) ∧
    ((∀ t, .label t ∉ rs) → profileLabel rs = none) ∧
    (∀ (k : SlotNo) before d arm after, rs = before ++ .trigger k d arm :: after →
      (∀ e a, .trigger k e a ∉ before) →
      profileSlot rs k = ⟨some d, if arm then .armed else .idle, 0, 0, 0⟩) ∧
    (∀ k : SlotNo, (∀ e a, .trigger k e a ∉ rs) → profileSlot rs k = ⟨none, .idle, 0, 0, 0⟩)) ∧
  (∀ (s : State) (seq number : Byte), s.passes (.loadProfile seq [number]) ⟨seq, 0x55, [number]⟩ →
    (4 ≤ number.toNat →
      exec (.loadProfile seq [number]) s = .next (s.refusing ⟨seq, 0x55, [number]⟩ 0x12 [])) ∧
    (∀ p : ProfileNo, p.val = number.toNat →
      (s.store.operation ≠ .none →
        exec (.loadProfile seq [number]) s =
          .next (s.refusing ⟨seq, 0x55, [number]⟩ 0x60 [])) ∧
      (s.store.operation = .none → s.store.media.slots[p].loadable = none →
        exec (.loadProfile seq [number]) s = .next (s.refusing ⟨seq, 0x55, [number]⟩ 0x65
          [if s.store.media.slots[p] = ⟨.erased, .erased⟩ then 0 else 2])) ∧
      (∀ n g rs, s.store.operation = .none →
        s.store.media.slots[p].loadable = some (n, g, rs) →
        (s.schedule.entries ≠ [] ∨ (∃ i : LineNo, s.lines[i].claims.pin ≠ none) →
          exec (.loadProfile seq [number]) s =
            .next (s.refusing ⟨seq, 0x55, [number]⟩ 0x30 [])) ∧
        (s.schedule.entries = [] → (∀ i : LineNo, s.lines[i].claims.pin = none) →
          exec (.loadProfile seq [number]) s = .next
            { s.serving ⟨seq, 0x55, [number]⟩ 0x01
                (leBytes 4 g.toNat ++ [oneByte rs.length]) with
              store := { s.store with operation := .loading p s.now } })))) ∧
  (∀ (s : State) (p : ProfileNo) (started : Nat) (n : CopyNo) (g : Serial)
    (rs : List ProfileRecord), s.held = false → s.link.settled →
    s.store.operation = .loading p started → s.store.media.slots[p].loadable = some (n, g, rs) →
    (started + 1000 + 500 * rs.length ≤ s.now →
      exec (.loadCompletion true) s =
        .next ((s.underProfile rs).storeDone .load (some p) .ok) ∧
      exec (.loadCompletion false) s = .next (s.storeDone .load (some p) .corrupt)) ∧
    (s.now < started + 1000 + 500 * rs.length →
      ∀ checked, exec (.loadCompletion checked) s = .next s))

/-- ERASE PROFILE: its refusals and its start, the end of its first step at 20 ms and its end at 40 ms. -/
def Obligations.EraseProfile : Prop :=
  (∀ (s : State) (seq number : Byte), s.passes (.eraseProfile seq [number]) ⟨seq, 0x56, [number]⟩ →
    (4 ≤ number.toNat →
      exec (.eraseProfile seq [number]) s = .next (s.refusing ⟨seq, 0x56, [number]⟩ 0x12 [])) ∧
    (∀ (p : ProfileNo) (first : CopyNo), p.val = number.toNat →
      first = s.store.media.slots[p].target →
      (s.store.operation ≠ .none →
        exec (.eraseProfile seq [number]) s =
          .next (s.refusing ⟨seq, 0x56, [number]⟩ 0x60 [])) ∧
      (s.store.operation = .none →
        exec (.eraseProfile seq [number]) s = .next
          { s.serving ⟨seq, 0x56, [number]⟩ 0x01 [] with
            store := { (s.withCopy p first .invalid).store with
              operation := .erasing p first s.now false } }))) ∧
  (∀ (s : State) (p : ProfileNo) (first : CopyNo) (started : Nat) (second : Bool),
    s.held = false → s.link.settled →
    s.store.operation = .erasing p first started second →
    (second = false → started + 20000 ≤ s.now →
      exec .eraseFirstStepEnd s = .next
        { s with store := { ((s.withCopy p first .erased).withCopy p first.other .invalid).store with
          operation := .erasing p first started true } }) ∧
    (second = true ∨ s.now < started + 20000 → exec .eraseFirstStepEnd s = .next s) ∧
    (second = true → started + 40000 ≤ s.now →
      exec .eraseCompletion s =
        .next ((s.withCopy p first.other .erased).storeDone .erase (some p) .ok)) ∧
    (second = false ∨ s.now < started + 40000 → exec .eraseCompletion s = .next s))

/-- SET BOOT SLOT: its refusals and its start on the selector copy that is not current, and its end, at 10 ms with
the copy VALID, or at 9 ms with the copy INVALID. -/
def Obligations.SetBootSlot : Prop :=
  (∀ (s : State) (seq number : Byte), s.passes (.setBootSlot seq [number]) ⟨seq, 0x57, [number]⟩ →
    (4 ≤ number.toNat → number ≠ 0xFF →
      exec (.setBootSlot seq [number]) s = .next (s.refusing ⟨seq, 0x57, [number]⟩ 0x12 [])) ∧
    (∀ (value : Option ProfileNo) (copy : CopyNo) (generation : Serial),
      (value = none ∧ number = 0xFF ∨ ∃ p : ProfileNo, value = some p ∧ p.val = number.toNat) →
      copy = s.store.media.selector.target → generation = s.store.media.selector.nextGeneration →
      (s.store.operation ≠ .none →
        exec (.setBootSlot seq [number]) s =
          .next (s.refusing ⟨seq, 0x57, [number]⟩ 0x60 [])) ∧
      (s.store.operation = .none →
        exec (.setBootSlot seq [number]) s = .next
          { s.serving ⟨seq, 0x57, [number]⟩ 0x01 [] with
            store := { (s.withSelectorCopy copy .invalid).store with
              operation := .bootWrite value copy generation s.now s.freeIx }
            freeIx := s.freeIx + 1 }))) ∧
  (∀ (s : State) (value : Option ProfileNo) (copy : CopyNo) (generation : Serial)
    (started draw : Nat), s.held = false → s.link.settled →
    s.store.operation = .bootWrite value copy generation started draw →
    (started + 10000 ≤ s.now →
      exec (.bootWriteCompletion true) s = .next
        ((s.withSelectorCopy copy (.valid generation value)).storeDone .setBootSlot value .ok)) ∧
    (started + 9000 ≤ s.now →
      exec (.bootWriteCompletion false) s = .next
        ((s.withSelectorCopy copy .invalid).storeDone .setBootSlot value .storeFault)) ∧
    (s.now < started + 10000 → exec (.bootWriteCompletion true) s = .next s) ∧
    (s.now < started + 9000 → exec (.bootWriteCompletion false) s = .next s))

/-- READ PROFILE replies the staging list or a slot's copies and loadable profile, with the boot selector's value,
the last-result record and as many records from the start index as fit; it changes nothing. The codes of 10.3: the
staging state, with the slot and the list it has; the copy condition, with the generation of a VALID copy; the copy
number; and the profile slot state, 1 VALID with a loadable copy, 0 EMPTY with both copies ERASED, and 2 CORRUPT. -/
def Obligations.ReadProfile : Prop :=
  (∀ (p : ProfileNo) (rs : List ProfileRecord),
    [Staging.idle, .staging p rs, .committing p rs].map (fun x => (x.code, x.slot, x.records)) =
      [(0, none, []), (1, some p, rs), (2, some p, rs)]) ∧
  (∀ (g : Serial) (rs : List ProfileRecord),
    [Copy.erased, .invalid, .valid g rs].map copyBytes =
      [[0, 0, 0, 0, 0], [1, 0, 0, 0, 0], 2 :: leBytes 4 g.toNat]) ∧
  [CopyNo.copy0, .copy1].map (fun n => (n.code, n.other)) = [(0, .copy1), (1, .copy0)] ∧
  (∀ pair : CopyPair (List ProfileRecord),
    (pair.loadable ≠ none → pair.stateCode = 1) ∧
    (pair = ⟨.erased, .erased⟩ → pair.stateCode = 0) ∧
    (pair.loadable = none → pair ≠ ⟨.erased, .erased⟩ → pair.stateCode = 2)) ∧
  ∀ (s : State) (seq source start : Byte),
    s.passes (.readProfile seq [source, start]) ⟨seq, 0x58, [source, start]⟩ →
    (31 < start.toNat ∨ (4 ≤ source.toNat ∧ source ≠ 0x10) →
      exec (.readProfile seq [source, start]) s =
        .next (s.refusing ⟨seq, 0x58, [source, start]⟩ 0x12 [])) ∧
    (start.toNat ≤ 31 → source.toNat < 4 → s.store.operation ≠ .none →
      exec (.readProfile seq [source, start]) s =
        .next (s.refusing ⟨seq, 0x58, [source, start]⟩ 0x60 [])) ∧
    (∀ (records : List ProfileRecord) (part : List Byte), start.toNat ≤ 31 →
      (source = 0x10 ∧ records = s.store.staging.records ∧ part = List.replicate 15 0 ∨
        s.store.operation = .none ∧ ∃ p : ProfileNo, p.val = source.toNat ∧
          records = (match s.store.media.slots[p].loadable with
            | some (_, _, rs) => rs
            | none => []) ∧
          part = s.store.media.slots[p].stateCode :: copyBytes s.store.media.slots[p].copy0
            ++ copyBytes s.store.media.slots[p].copy1
            ++ leBytes 4 (match s.store.media.slots[p].loadable with
              | some (_, g, _) => g.toNat
              | none => 0)) →
      ∃ given rest : List ProfileRecord, records.drop start.toNat = given ++ rest ∧
        (given.map (·.bytes.length)).sum ≤ 216 ∧
        (∀ r ∈ rest.head?, 216 < (given.map (·.bytes.length)).sum + r.bytes.length) ∧
        exec (.readProfile seq [source, start]) s =
          .next (s.serving ⟨seq, 0x58, [source, start]⟩ 0x00
            ([source, s.store.staging.code, profileField s.store.staging.slot] ++ part
              ++ [oneByte records.length, profileField s.store.media.bootValue]
              ++ (match s.store.lastResult with
                | some r => [(1 : Byte), r.op.code, profileField r.slot, r.result.code]
                    ++ timeBytes r.time
                | none => List.replicate 10 (0 : Byte))
              ++ [oneByte given.length] ++ given.flatMap (·.bytes))))

/-- The start-up load completes at 2,000 µs, or after the read of the boot profile; a profile that checks is applied,
the boot result and slot are recorded, and then a SAFE_N that is asserted makes a failsafe entry with cause
LINE. What a profile sets is that of `LoadProfile`. What the first sample of a line whose sensing starts finds at its
pin, by the circuit outside, is the model's choice (assumption 8). The boot selector's value is that of its current
copy, and NONE without one. -/
def Obligations.StartupLoad : Prop :=
  (∀ m : Media, m.bootValue = (match m.selector.loadable with
    | some (_, _, value) => value
    | none => none)) ∧
  ∀ (s : State) (checked : Bool), s.held = false → s.link.settled →
    (s.starting = false → exec (.startupLoadCompletion checked) s = .next s) ∧
    (∀ (booted : State) (time : Nat), s.starting = true →
      ((∃ p n g rs, s.store.media.bootValue = some p ∧
          s.store.media.slots[p].loadable = some (n, g, rs) ∧ time = 3000 + 500 * rs.length ∧
          booted = (if checked then
              { s.underProfile rs with store := { (s.underProfile rs).store with
                bootResult := .loaded, bootSlot := some p } }
            else { s with store := { s.store with
                bootResult := .corrupt, bootSlot := some p } })) ∨
        (∃ p, s.store.media.bootValue = some p ∧ s.store.media.slots[p].loadable = none ∧
          time = 2000 ∧
          booted = { s with store := { s.store with
            bootResult :=
              if s.store.media.slots[p] = ⟨.erased, .erased⟩ then .empty else .corrupt
            bootSlot := some p } }) ∨
        (s.store.media.bootValue = none ∧ time = 2000 ∧
          booted = { s with store := { s.store with
            bootResult := .none, bootSlot := none } })) →
      (s.now < time → exec (.startupLoadCompletion checked) s = .next s) ∧
      (time ≤ s.now → s.session.safeN.asserted = false →
        exec (.startupLoadCompletion checked) s = .next booted) ∧
      (time ≤ s.now → s.session.safeN.asserted = true → s.session.state = .noSession →
        s.store.operation = .none → s.schedule.outcomes.length ≤ 16 →
        exec (.startupLoadCompletion checked) s = .next
          { booted.enteredFailsafe .line with
            link := (booted.link.enqueue (.failsafeEntered .line s.now)).arbitrate s.now }))

/-! ### Inputs -/

/-- A line's sample (R30, R34, R35), one at each device time: the pin's level begins a settle, qualifies at once
under settle time 0, ends a settle as a glitch, or changes the raw level alone. A line that has had its sample,
or the first sample of its sensing, at this device time takes no other, whatever the circuit outside does. The
reading of the pin, by the circuit outside and the drive at the last advance of the clock, and the mark of a
sample taken are the model's (assumptions 8 and 24): LOW or HIGH where the circuit outside holds the pin so, and on a
pull-up the part's own drive, or HIGH when it drives nothing. -/
def Obligations.RawChange : Prop :=
  (∀ drive : Option Level, pinLevel .holdsLow drive = .low ∧ pinLevel .holdsHigh drive = .high ∧
    pinLevel .pullUp drive = (match drive with | some level => level | none => .high)) ∧
  ∀ (s : State) (i : LineNo) (circuit : Outside), s.held = false → s.link.settled →
    (s.lines[i].filter = none →
      exec (.rawChange i circuit) s =
        .next { s with lines := s.lines.set i { s.lines[i] with circuit := circuit } }) ∧
    (∀ f, s.lines[i].filter = some f → f.sampled = true →
      exec (.rawChange i circuit) s =
        .next { s with lines := s.lines.set i { s.lines[i] with circuit := circuit } }) ∧
    (∀ (f : Filter) (sample : Level), s.lines[i].filter = some f → f.sampled = false →
      sample = pinLevel circuit f.drive →
      (∀ p, f.settle = some p → sample = f.filtered → s.now < p.onset + p.duration →
        exec (.rawChange i circuit) s = .next { s with lines := s.lines.set i { s.lines[i] with
          circuit := circuit
          filter := some { f with raw := sample, settle := none, sampled := true }
          glitches := min (s.lines[i].glitches + 1) 255 } }) ∧
      (f.settle = none ∧ sample = f.filtered ∨
          (∃ p, f.settle = some p ∧ (sample ≠ f.filtered ∨ p.onset + p.duration ≤ s.now)) →
        exec (.rawChange i circuit) s = .next { s with lines := s.lines.set i { s.lines[i] with
          circuit := circuit, filter := some { f with raw := sample, sampled := true } } }) ∧
      (f.settle = none → sample ≠ f.filtered → 0 < s.settleTimes[s.lines[i].config.cls] →
        exec (.rawChange i circuit) s = .next { s with lines := s.lines.set i { s.lines[i] with
          circuit := circuit
          filter := some { f with
            raw := sample, sampled := true
            settle := some ⟨s.now, s.settleTimes[s.lines[i].config.cls]⟩ } } }) ∧
      (∀ t, f.settle = none → sample ≠ f.filtered → s.settleTimes[s.lines[i].config.cls] = 0 →
        t = ({ s with lines := s.lines.set i { s.lines[i] with
          circuit := circuit
          filter := some { f with raw := sample, filtered := sample, sampled := true } } }).deliver
            ⟨i, (match sample with | .high => .rise | .low => .fall), s.now, s.now⟩ →
        exec (.rawChange i circuit) s = .next { t with link := t.link.arbitrate s.now }))

/-- A qualification (R36): the filtered level changes at the settle's completion and the edge is delivered with its
onset; a sample of that time that differs from the new level then begins a settle, or under settle time 0 qualifies at
once, with an edge of its own back to the old level. An edge is taken by the
journal, the triggers and the guards in one of their six orders, each receiver with all that it asks for, a group
cancel among it, before the next (the model's choice, assumption 3). -/
def Obligations.QualificationDeliversEdge : Prop :=
  (∀ (s : State) (i : LineNo), s.held = false → s.link.settled →
    (∀ (f : Filter) (p : Settle) (level : Level) (t : State), s.lines[i].filter = some f →
      f.settle = some p → p.onset + p.duration ≤ s.now →
      level = (match f.filtered with | .low => .high | .high => .low) →
      t = ({ s with lines := s.lines.set i { s.lines[i] with
        filter := some { f with filtered := level, settle := none } } }).deliver
          ⟨i, (match f.filtered with | .low => .rise | .high => .fall), p.onset, s.now⟩ →
      (f.raw ≠ f.filtered →
        exec (.qualification i) s = .next { t with link := t.link.arbitrate s.now }) ∧
      (f.raw = f.filtered → 0 < s.settleTimes[s.lines[i].config.cls] →
        exec (.qualification i) s = .next { t with
          lines := t.lines.set i { t.lines[i] with
            filter := some { f with
              filtered := level
              settle := some ⟨s.now, s.settleTimes[s.lines[i].config.cls]⟩ } }
          link := t.link.arbitrate s.now }) ∧
      (∀ u : State, f.raw = f.filtered → s.settleTimes[s.lines[i].config.cls] = 0 →
        u = ({ t with lines := t.lines.set i { t.lines[i] with
          filter := some { f with settle := none } } }).deliver
            ⟨i, (match f.filtered with | .low => .fall | .high => .rise), s.now, s.now⟩ →
        exec (.qualification i) s = .next { u with link := u.link.arbitrate s.now })) ∧
    ((∀ f p, s.lines[i].filter = some f → f.settle = some p → s.now < p.onset + p.duration) →
      exec (.qualification i) s = .next s)) ∧
  (∀ (s : State) (e : Edge),
    ∃ order ∈ [State.takeJournalEdge, State.takeTriggerEdge, State.takeGuardEdge].permutations,
      ∃ ix ∈ [s.freeIx, s.freeIx + 1],
        s.deliver e = order.foldl (fun t take => take t e) { s with freeIx := ix })

/-- The effective level of an output line and its winning class are those of the highest-ranked claim present,
FAILSAFE, PIN, TRIGGER, SCHEDULE, BASE; a line in another mode has neither. The expiry of a claim removes that claim
and no other, once its time has come. -/
def Obligations.ClaimsWinAndExpire : Prop :=
  (∀ c : ClaimSet, [ClaimClass.failsafe, .pin, .trigger, .schedule, .base].map c.get =
    [c.failsafe, c.pin, c.trigger, c.schedule, c.base]) ∧
  (∀ (c : ClaimSet) (cls other : ClaimClass) (claim : Option Claim),
    (c.set cls claim).get other = if other = cls then claim else c.get other) ∧
  (∀ l : Line,
    (l.isOutput = false → l.effective = none ∧ l.winningClass = none) ∧
    (l.isOutput = true →
      (∀ (cls : ClaimClass) (c : Claim), l.claims.get cls = some c →
        (∀ higher : ClaimClass, higher.code.toNat < cls.code.toNat → l.claims.get higher = none) →
        l.effective = some c.level ∧ l.winningClass = some cls) ∧
      ((∀ cls : ClaimClass, l.claims.get cls = none) →
        l.effective = none ∧ l.winningClass = none))) ∧
  (∀ (s : State) (i : LineNo) (cls : ClaimClass), s.held = false → s.link.settled →
    (∀ c time, s.lines[i].claims.get cls = some c → c.expiry = some time → time ≤ s.now →
      ∃ claims : ClaimSet, claims.get cls = none ∧
        (∀ other, other ≠ cls → claims.get other = s.lines[i].claims.get other) ∧
        exec (.claimExpiry i cls) s =
          .next { s with lines := s.lines.set i { s.lines[i] with claims := claims } }) ∧
    ((∀ c time, s.lines[i].claims.get cls = some c → c.expiry = some time → s.now < time) →
      exec (.claimExpiry i cls) s = .next s))

/-- The lease's times in ACTIVE: at the warning time a LEASE_WARNING with a quarter of the lease left is asked for
and the warning is disarmed; at the deadline the part enters failsafe with cause LEASE. -/
def Obligations.LeaseTimes : Prop :=
  ∀ s : State, s.held = false → s.link.settled →
    (∀ (time : Nat) (t : State), s.session.state = .active → s.session.warning = some time →
      time ≤ s.now →
      t = ({ s with session := { s.session with warning := none } }).enqueue
        (.leaseWarning (s.session.lease * 250 / 1000)) →
      exec .warningArrival s = .next { t with link := t.link.arbitrate s.now }) ∧
    (s.session.state ≠ .active ∨ (∀ time ∈ s.session.warning, s.now < time) →
      exec .warningArrival s = .next s) ∧
    (∀ time : Nat, s.session.state = .active → s.session.deadline = some time → time ≤ s.now →
      s.schedule.outcomes.length ≤ 16 →
      ∃ link ∈ s.entryLinks .lease,
        exec .leaseExpiry s =
          .next { s.enteredFailsafe .lease with link := link.arbitrate s.now }) ∧
    (s.session.state ≠ .active ∨ (∀ time ∈ s.session.deadline, s.now < time) →
      exec .leaseExpiry s = .next s)

/-- SAFE_N: a sample, one at each device time, begins, discards or leaves a settle of 1 ms; its completion changes the
filtered level, and an assertion enters failsafe with cause LINE, or adds LINE to the cause set in FAILSAFE, or waits
for the end of the start-up load. The mark of a sample taken is the model's (assumption 24); a settle that begins at
the completion itself is too (assumption 17), and no part of this. -/
def Obligations.SafeNInput : Prop :=
  (∀ (s : State) (level : Level), s.held = false → s.link.settled →
    (s.session.safeN.sampled = true →
      exec (.safeNChange level) s = .next { s with pins := { s.pins with safeN := level } }) ∧
    ∀ onset : Option Nat, s.session.safeN.sampled = false →
      onset = (match s.session.safeN.onset with
        | none => if decide (level = .low) = s.session.safeN.asserted then none else some s.now
        | some o =>
          if decide (level = .low) = s.session.safeN.asserted ∧ s.now < o + 1000 then none
          else some o) →
      exec (.safeNChange level) s = .next { s with
        pins := { s.pins with safeN := level }
        session := { s.session with safeN := ⟨level, s.session.safeN.asserted, onset, true⟩ } }) ∧
  (∀ s : State, s.held = false → s.link.settled →
    ((∀ o ∈ s.session.safeN.onset, s.now < o + 1000) →
      exec .safeNQualification s = .next s) ∧
    (∀ (o : Nat) (t : State), s.session.safeN.onset = some o → o + 1000 ≤ s.now →
      t = { s with session := { s.session with safeN := { s.session.safeN with
        asserted := !s.session.safeN.asserted, onset := none } } } →
      (s.session.safeN.asserted = true → s.session.safeN.raw = .high →
        exec .safeNQualification s = .next t) ∧
      (s.session.safeN.asserted = false → s.session.safeN.raw = .low →
        (s.session.state = .noSession → s.starting = true →
          exec .safeNQualification s = .next t) ∧
        (s.session.state = .failsafe →
          exec .safeNQualification s = .next { t with session := { t.session with
            record := t.session.record.map ({ · with hasLine := true }) } }) ∧
        (s.session.state = .active ∨ s.session.state = .noSession ∧ s.starting = false →
          s.schedule.outcomes.length ≤ 16 →
          ∃ link ∈ t.entryLinks .line,
            exec .safeNQualification s =
              .next { t.enteredFailsafe .line with link := link.arbitrate s.now }))))

/-! ### Layouts -/

/-- The bodies of the requests that carry lists or optional parts, read as the layouts of 10.5 write them: a body of
the length that check 3 asks for is read as these operands exactly when they are in range and the body is their layout,
byte for byte, so that a body which is no such layout is read as none and refused BAD_VALUE. CONFIGURE LINES, SET BASE,
SET FAILSAFE, PIN LINES, UNPIN LINES in its two forms, READ JOURNAL, CANCEL ACTION, CANCEL GROUP and SUBMIT ACTION. A
number is carried least significant byte first, and read back so (R192); a device time in 6 bytes, one beyond the
clock's last value as that value. -/
def Obligations.RequestLayoutsRoundTrip : Prop :=
  (∀ n : Nat, oneByte n = BitVec.ofNat 8 n ∧ timeBytes n = leBytes 6 (min n (2 ^ 48 - 1))) ∧
  (∀ width n : Nat, (leBytes width n).length = width ∧ leNat (leBytes width n) = n % 256 ^ width ∧
    ∀ k < width, (leBytes width n)[k]? = some (BitVec.ofNat 8 (n / 256 ^ k))) ∧
  (∀ (body : List Byte) (xs : List LineSetting),
    lengthFits 0x10 body = true ∧ parseConfigureLines body = some xs ↔
      1 ≤ xs.length ∧ xs.length ≤ 8 ∧ (xs.map (·.line)).Nodup ∧
      body = oneByte xs.length :: xs.flatMap fun x =>
        [oneByte x.line.val, x.config.mode.code, x.config.base.code, oneByte x.config.cls.val,
          x.config.sense.code, x.config.failsafe.code]) ∧
  (∀ (body : List Byte) (xs : List BaseSetting),
    lengthFits 0x11 body = true ∧ parseSetBase body = some xs ↔
      1 ≤ xs.length ∧ xs.length ≤ 8 ∧ (xs.map (·.line)).Nodup ∧
      body = oneByte xs.length :: xs.flatMap fun x => [oneByte x.line.val, x.level.code]) ∧
  (∀ (body : List Byte) (xs : List SpecSetting),
    lengthFits 0x12 body = true ∧ parseSetFailsafe body = some xs ↔
      1 ≤ xs.length ∧ xs.length ≤ 8 ∧ (xs.map (·.line)).Nodup ∧
      body = oneByte xs.length :: xs.flatMap fun x => [oneByte x.line.val, x.spec.code]) ∧
  (∀ (body : List Byte) (xs : List PinItem),
    lengthFits 0x13 body = true ∧ parsePinLines body = some xs ↔
      1 ≤ xs.length ∧ xs.length ≤ 8 ∧ (xs.map (·.line)).Nodup ∧
      (∀ x ∈ xs, ∀ d ∈ x.duration, 1 ≤ d ∧ d < 2 ^ 24) ∧
      body = oneByte xs.length :: xs.flatMap fun x =>
        [oneByte x.line.val, x.level.code, if x.duration.isSome then 1 else 0]
          ++ leBytes 3 (x.duration.getD 0)) ∧
  (∀ (body : List Byte) (is : List LineNo),
    lengthFits 0x14 body = true ∧ parseUnpinLines body = some (.list is) ↔
      1 ≤ is.length ∧ is.length ≤ 8 ∧ is.Nodup ∧
      body = 0 :: oneByte is.length :: is.map fun i => oneByte i.val) ∧
  (∀ body : List Byte, lengthFits 0x14 body = true ∧ parseUnpinLines body = some .all ↔
    body = [1, 0]) ∧
  (∀ (body : List Byte) (count : Nat) (start : Option Serial),
    lengthFits 0x20 body = true ∧ parseReadJournal body = some (count, start) ↔
      1 ≤ count ∧ count ≤ 16 ∧
      body = oneByte count :: (match start with
        | none => [0, 0, 0, 0, 0]
        | some q => 1 :: leBytes 4 q.toNat)) ∧
  (∀ (body : List Byte) (id : Nat) (release : Bool),
    lengthFits 0x31 body = true ∧ parseCancelAction body = some (id, release) ↔
      1 ≤ id ∧ id < 65536 ∧ body = leBytes 2 id ++ [if release then 1 else 0]) ∧
  (∀ (body : List Byte) (group : Nat) (release : Bool),
    lengthFits 0x32 body = true ∧ parseCancelGroup body = some (group, release) ↔
      1 ≤ group ∧ group ≤ 15 ∧ body = [oneByte group, if release then 1 else 0]) ∧
  (∀ (body : List Byte) (x : Submission),
    lengthFits 0x30 body = true ∧ parseSubmit body = some x ↔ x.inRange ∧ body = x.bytes)

/-- A trigger definition, and every profile record, is read back from the bytes that the part sends of it, and from no
others: a body of the length that check 3 asks for is read as one exactly when that is in range and these are its
bytes, so that any other is refused BAD_VALUE. The bytes are those of the layouts of 10.5 and 10.8, field by field, with
the codes of 10.3 and with 0 in every absent part and unused place; those of a line configuration are in `ReadLines`. -/
def Obligations.RecordLayoutsRoundTrip : Prop :=
  [TargetValue.low, .high, .toggle, .release].map TargetValue.code = [0, 1, 2, 3] ∧
  (∀ (k : SlotNo) (d : TriggerDef), d.bytes k =
    [oneByte k.val, oneByte d.watched.val,
        match d.edge with | .rise => (0 : Byte) | .fall => 1 | .either => 2]
      ++ (match d.qualifier with
        | some q => [(1 : Byte), oneByte q.line.val, match q.level with | .low => 0 | .high => 1]
        | none => [0, 0, 0])
      ++ leBytes 3 d.delay
      ++ [match d.policy with | .ignore => (0 : Byte) | .restart => 1]
      ++ (match d.mode with
        | .oneshot => [(0 : Byte), 0, 0, 0]
        | .rearm holdoff => 1 :: leBytes 3 holdoff)
      ++ (match d.hold with
        | some hold => (1 : Byte) :: leBytes 3 hold
        | none => [0, 0, 0, 0])
      ++ [oneByte d.cancelGroup, if d.notify then 1 else 0, oneByte d.targets.length]
      ++ ((d.targets.flatMap fun t => [oneByte t.line.val, t.value.code])
        ++ List.replicate 8 (0 : Byte)).take 8) ∧
  (∀ r : ProfileRecord, ∃ (kind : Byte) (content : List Byte),
    r.bytes = kind :: oneByte content.length :: content ∧
    (kind, content) = (match r with
      | .lines first configs => (1, oneByte first.val :: oneByte configs.length ::
          configs.flatMap fun c =>
            [c.mode.code, c.base.code, oneByte c.cls.val, c.sense.code, c.failsafe.code])
      | .filters times =>
        (2, leBytes 2 times[0] ++ leBytes 2 times[1] ++ leBytes 2 times[2] ++ leBytes 2 times[3])
      | .journal threshold => (3, leBytes 2 threshold)
      | .trigger k d arm => (4, d.bytes k ++ [if arm then 1 else 0])
      | .label characters => (5, characters))) ∧
  (∀ (body : List Byte) (k : SlotNo) (d : TriggerDef),
    lengthFits 0x40 body = true ∧ parseTriggerDef body = some (k, d) ↔
      d.inRange ∧ body = d.bytes k) ∧
  (∀ (body : List Byte) (r : ProfileRecord),
    lengthFits 0x51 body = true ∧ parseAppendRecord body = some r ↔ r.inRange ∧ body = r.bytes)

/-! ### Invariants -/

/-- Every step keeps the laws of the lines: the one BASE claim of an output line, no claim on another line, and a
filter exactly while the line is sensed. -/
def Obligations.LineLawsKept : Prop :=
  ∀ s t : State, s.linesLawful → step s = .next t → t.linesLawful

/-- Every step keeps the bounds of the lists and counters of the link, of the outcome list and of the staging list,
and leaves the transmitter nothing to choose. -/
def Obligations.BoundsKept : Prop :=
  ∀ s t : State, s.bounded → step s = .next t → t.bounded

/-- Every step keeps the laws of failsafe: in FAILSAFE no line holds a PIN, TRIGGER or SCHEDULE claim, nothing is
queued and no slot is running; in another state no line holds a FAILSAFE claim. -/
def Obligations.FailsafeLawsKept : Prop :=
  ∀ s t : State, s.failsafeLawful → s.linesLawful → step s = .next t → t.failsafeLawful

/-- Every step keeps the laws of the references: the counts, the modes of the lines that entries and slots name,
and the laws of the schedule. -/
def Obligations.ReferenceLawsKept : Prop :=
  ∀ s t : State, s.referencesLawful → s.failsafeLawful → s.linesLawful → step s = .next t →
    t.referencesLawful
end

