-- ==== Sys2Proof/Laws/Encoding.lean ====
section
/-! SUPPORT. Little-endian fields: what is written is read back. -/

namespace Sys2Proof.Machine

@[simp] theorem leBytes_length (width n : Nat) : (leBytes width n).length = width := by
  induction width generalizing n with
  | zero => rfl
  | succ width ih => simp [leBytes, ih]

/-- A number that fits its field is read back from it (R192). -/
theorem leNat_leBytes (width n : Nat) (h : n < 256 ^ width) : leNat (leBytes width n) = n := by
  induction width generalizing n with
  | zero => simp only [Nat.pow_zero, Nat.lt_one_iff] at h; subst h; rfl
  | succ width ih =>
    have h' : n / 256 < 256 ^ width := by
      rw [Nat.div_lt_iff_lt_mul (by decide), ← Nat.pow_succ]; exact h
    simp only [leBytes, leNat, ih _ h', BitVec.toNat_ofNat]
    omega

/-- A field holds a number below its bound. -/
theorem leNat_lt (bs : List Byte) : leNat bs < 256 ^ bs.length := by
  induction bs with
  | nil => simp [leNat]
  | cons b bs ih =>
    have hb := b.isLt
    simp only [leNat, List.length_cons, Nat.pow_succ]
    omega

/-- The bytes of a field are those of the number it holds. -/
theorem leBytes_leNat (bs : List Byte) : leBytes bs.length (leNat bs) = bs := by
  induction bs with
  | nil => rfl
  | cons b bs ih =>
    have hb := b.isLt
    have h1 : (b.toNat + 256 * leNat bs) / 256 = leNat bs := by omega
    have h2 : BitVec.ofNat 8 (b.toNat + 256 * leNat bs) = b := by
      apply BitVec.eq_of_toNat_eq
      simp only [BitVec.toNat_ofNat]; omega
    simp only [List.length_cons, leBytes, leNat, h1, h2, ih]

/-- Fields one behind another. -/
theorem leNat_append (a b : List Byte) : leNat (a ++ b) = leNat a + 256 ^ a.length * leNat b := by
  induction a with
  | nil => simp [leNat]
  | cons x a ih =>
    simp only [List.cons_append, leNat, ih, List.length_cons, Nat.pow_succ]
    rw [Nat.mul_add, Nat.add_assoc]
    congr 1
    rw [Nat.mul_comm (256 ^ a.length) 256, Nat.mul_assoc]

/-- A byte that holds a number below 256. -/
theorem oneByte_toNat {n : Nat} (h : n < 256) : (oneByte n).toNat = n := by
  simp only [oneByte, BitVec.toNat_ofNat]; omega

@[simp] theorem timeBytes_length (t : Nat) : (timeBytes t).length = 6 := leBytes_length _ _

@[simp] theorem optTimeBytes_length (t : Option Nat) : (optTimeBytes t).length = 7 := by
  cases t <;> simp [optTimeBytes]

end Sys2Proof.Machine
end

