-- ==== Sys2Proof/Laws/State.lean ====
section
/-! SUPPORT. Every field after every plain update of the state: the field lemmas that later proofs use in
place of unfolding a record update, and the line that a change of all lines, or of one, leaves. -/

namespace Sys2Proof.Machine

variable (s : State)

/-! #### `State.drawn` -/

@[simp] theorem State.drawn_pending : (s.drawn).pending = s.pending := rfl
@[simp] theorem State.drawn_pins : (s.drawn).pins = s.pins := rfl
@[simp] theorem State.drawn_resetCause : (s.drawn).resetCause = s.resetCause := rfl
@[simp] theorem State.drawn_now : (s.drawn).now = s.now := rfl
@[simp] theorem State.drawn_settleTimes : (s.drawn).settleTimes = s.settleTimes := rfl
@[simp] theorem State.drawn_lines : (s.drawn).lines = s.lines := rfl
@[simp] theorem State.drawn_journal : (s.drawn).journal = s.journal := rfl
@[simp] theorem State.drawn_schedule : (s.drawn).schedule = s.schedule := rfl
@[simp] theorem State.drawn_slots : (s.drawn).slots = s.slots := rfl
@[simp] theorem State.drawn_session : (s.drawn).session = s.session := rfl
@[simp] theorem State.drawn_store : (s.drawn).store = s.store := rfl
@[simp] theorem State.drawn_link : (s.drawn).link = s.link := rfl
@[simp] theorem State.drawn_freeIx : (s.drawn).freeIx = s.freeIx + 1 := rfl

/-! #### `State.mapLines` -/

@[simp] theorem State.mapLines_pending (f : LineNo → Line → Line) :
    (s.mapLines f).pending = s.pending := by
  simp only [State.mapLines]
@[simp] theorem State.mapLines_pins (f : LineNo → Line → Line) : (s.mapLines f).pins = s.pins := by
  simp only [State.mapLines]
@[simp] theorem State.mapLines_resetCause (f : LineNo → Line → Line) :
    (s.mapLines f).resetCause = s.resetCause := by
  simp only [State.mapLines]
@[simp] theorem State.mapLines_now (f : LineNo → Line → Line) : (s.mapLines f).now = s.now := by
  simp only [State.mapLines]
@[simp] theorem State.mapLines_settleTimes (f : LineNo → Line → Line) :
    (s.mapLines f).settleTimes = s.settleTimes := by
  simp only [State.mapLines]
@[simp] theorem State.mapLines_lines (f : LineNo → Line → Line) :
    (s.mapLines f).lines = Vector.ofFn fun i => f i s.lines[i] := by
  simp only [State.mapLines]
@[simp] theorem State.mapLines_journal (f : LineNo → Line → Line) :
    (s.mapLines f).journal = s.journal := by
  simp only [State.mapLines]
@[simp] theorem State.mapLines_schedule (f : LineNo → Line → Line) :
    (s.mapLines f).schedule = s.schedule := by
  simp only [State.mapLines]
@[simp] theorem State.mapLines_slots (f : LineNo → Line → Line) : (s.mapLines f).slots = s.slots := by
  simp only [State.mapLines]
@[simp] theorem State.mapLines_session (f : LineNo → Line → Line) :
    (s.mapLines f).session = s.session := by
  simp only [State.mapLines]
@[simp] theorem State.mapLines_store (f : LineNo → Line → Line) : (s.mapLines f).store = s.store := by
  simp only [State.mapLines]
@[simp] theorem State.mapLines_link (f : LineNo → Line → Line) : (s.mapLines f).link = s.link := by
  simp only [State.mapLines]
@[simp] theorem State.mapLines_freeIx (f : LineNo → Line → Line) :
    (s.mapLines f).freeIx = s.freeIx := by
  simp only [State.mapLines]

/-! #### `State.updateLine` -/

@[simp] theorem State.updateLine_pending (i : LineNo) (f : Line → Line) :
    (s.updateLine i f).pending = s.pending := rfl
@[simp] theorem State.updateLine_pins (i : LineNo) (f : Line → Line) :
    (s.updateLine i f).pins = s.pins := rfl
@[simp] theorem State.updateLine_resetCause (i : LineNo) (f : Line → Line) :
    (s.updateLine i f).resetCause = s.resetCause := rfl
@[simp] theorem State.updateLine_now (i : LineNo) (f : Line → Line) :
    (s.updateLine i f).now = s.now := rfl
@[simp] theorem State.updateLine_settleTimes (i : LineNo) (f : Line → Line) :
    (s.updateLine i f).settleTimes = s.settleTimes := rfl
@[simp] theorem State.updateLine_lines (i : LineNo) (f : Line → Line) :
    (s.updateLine i f).lines = s.lines.set i (f s.lines[i]) := rfl
@[simp] theorem State.updateLine_journal (i : LineNo) (f : Line → Line) :
    (s.updateLine i f).journal = s.journal := rfl
@[simp] theorem State.updateLine_schedule (i : LineNo) (f : Line → Line) :
    (s.updateLine i f).schedule = s.schedule := rfl
@[simp] theorem State.updateLine_slots (i : LineNo) (f : Line → Line) :
    (s.updateLine i f).slots = s.slots := rfl
@[simp] theorem State.updateLine_session (i : LineNo) (f : Line → Line) :
    (s.updateLine i f).session = s.session := rfl
@[simp] theorem State.updateLine_store (i : LineNo) (f : Line → Line) :
    (s.updateLine i f).store = s.store := rfl
@[simp] theorem State.updateLine_link (i : LineNo) (f : Line → Line) :
    (s.updateLine i f).link = s.link := rfl
@[simp] theorem State.updateLine_freeIx (i : LineNo) (f : Line → Line) :
    (s.updateLine i f).freeIx = s.freeIx := rfl

/-! #### `State.withLink` -/

@[simp] theorem State.withLink_pending (l : Link) : (s.withLink l).pending = s.pending := rfl
@[simp] theorem State.withLink_pins (l : Link) : (s.withLink l).pins = s.pins := rfl
@[simp] theorem State.withLink_resetCause (l : Link) : (s.withLink l).resetCause = s.resetCause := rfl
@[simp] theorem State.withLink_now (l : Link) : (s.withLink l).now = s.now := rfl
@[simp] theorem State.withLink_settleTimes (l : Link) :
    (s.withLink l).settleTimes = s.settleTimes := rfl
@[simp] theorem State.withLink_lines (l : Link) : (s.withLink l).lines = s.lines := rfl
@[simp] theorem State.withLink_journal (l : Link) : (s.withLink l).journal = s.journal := rfl
@[simp] theorem State.withLink_schedule (l : Link) : (s.withLink l).schedule = s.schedule := rfl
@[simp] theorem State.withLink_slots (l : Link) : (s.withLink l).slots = s.slots := rfl
@[simp] theorem State.withLink_session (l : Link) : (s.withLink l).session = s.session := rfl
@[simp] theorem State.withLink_store (l : Link) : (s.withLink l).store = s.store := rfl
@[simp] theorem State.withLink_link (l : Link) : (s.withLink l).link = l := rfl
@[simp] theorem State.withLink_freeIx (l : Link) : (s.withLink l).freeIx = s.freeIx := rfl

/-! #### `State.withReply` -/

@[simp] theorem State.withReply_pending (r : Frame) : (s.withReply r).pending = s.pending := rfl
@[simp] theorem State.withReply_pins (r : Frame) : (s.withReply r).pins = s.pins := rfl
@[simp] theorem State.withReply_resetCause (r : Frame) :
    (s.withReply r).resetCause = s.resetCause := rfl
@[simp] theorem State.withReply_now (r : Frame) : (s.withReply r).now = s.now := rfl
@[simp] theorem State.withReply_settleTimes (r : Frame) :
    (s.withReply r).settleTimes = s.settleTimes := rfl
@[simp] theorem State.withReply_lines (r : Frame) : (s.withReply r).lines = s.lines := rfl
@[simp] theorem State.withReply_journal (r : Frame) : (s.withReply r).journal = s.journal := rfl
@[simp] theorem State.withReply_schedule (r : Frame) : (s.withReply r).schedule = s.schedule := rfl
@[simp] theorem State.withReply_slots (r : Frame) : (s.withReply r).slots = s.slots := rfl
@[simp] theorem State.withReply_session (r : Frame) : (s.withReply r).session = s.session := rfl
@[simp] theorem State.withReply_store (r : Frame) : (s.withReply r).store = s.store := rfl
@[simp] theorem State.withReply_link (r : Frame) :
    (s.withReply r).link = { s.link with reply := some r } := rfl
@[simp] theorem State.withReply_freeIx (r : Frame) : (s.withReply r).freeIx = s.freeIx := rfl

/-! #### `State.withCache` -/

@[simp] theorem State.withCache_pending (f r : Frame) : (s.withCache f r).pending = s.pending := rfl
@[simp] theorem State.withCache_pins (f r : Frame) : (s.withCache f r).pins = s.pins := rfl
@[simp] theorem State.withCache_resetCause (f r : Frame) :
    (s.withCache f r).resetCause = s.resetCause := rfl
@[simp] theorem State.withCache_now (f r : Frame) : (s.withCache f r).now = s.now := rfl
@[simp] theorem State.withCache_settleTimes (f r : Frame) :
    (s.withCache f r).settleTimes = s.settleTimes := rfl
@[simp] theorem State.withCache_lines (f r : Frame) : (s.withCache f r).lines = s.lines := rfl
@[simp] theorem State.withCache_journal (f r : Frame) : (s.withCache f r).journal = s.journal := rfl
@[simp] theorem State.withCache_schedule (f r : Frame) : (s.withCache f r).schedule = s.schedule := rfl
@[simp] theorem State.withCache_slots (f r : Frame) : (s.withCache f r).slots = s.slots := rfl
@[simp] theorem State.withCache_session (f r : Frame) : (s.withCache f r).session = s.session := rfl
@[simp] theorem State.withCache_store (f r : Frame) : (s.withCache f r).store = s.store := rfl
@[simp] theorem State.withCache_link (f r : Frame) :
    (s.withCache f r).link = { s.link with cache := some ⟨f.seq, f.kind, r⟩ } := rfl
@[simp] theorem State.withCache_freeIx (f r : Frame) : (s.withCache f r).freeIx = s.freeIx := rfl

/-! #### `State.popWaiting` -/

@[simp] theorem State.popWaiting_pending : (s.popWaiting).pending = s.pending := rfl
@[simp] theorem State.popWaiting_pins : (s.popWaiting).pins = s.pins := rfl
@[simp] theorem State.popWaiting_resetCause : (s.popWaiting).resetCause = s.resetCause := rfl
@[simp] theorem State.popWaiting_now : (s.popWaiting).now = s.now := rfl
@[simp] theorem State.popWaiting_settleTimes : (s.popWaiting).settleTimes = s.settleTimes := rfl
@[simp] theorem State.popWaiting_lines : (s.popWaiting).lines = s.lines := rfl
@[simp] theorem State.popWaiting_journal : (s.popWaiting).journal = s.journal := rfl
@[simp] theorem State.popWaiting_schedule : (s.popWaiting).schedule = s.schedule := rfl
@[simp] theorem State.popWaiting_slots : (s.popWaiting).slots = s.slots := rfl
@[simp] theorem State.popWaiting_session : (s.popWaiting).session = s.session := rfl
@[simp] theorem State.popWaiting_store : (s.popWaiting).store = s.store := rfl
@[simp] theorem State.popWaiting_link :
    (s.popWaiting).link = { s.link with waiting := s.link.waiting.tail } := rfl
@[simp] theorem State.popWaiting_freeIx : (s.popWaiting).freeIx = s.freeIx := rfl

/-! #### `State.arbitrate` -/

@[simp] theorem State.arbitrate_pending : (s.arbitrate).pending = s.pending := rfl
@[simp] theorem State.arbitrate_pins : (s.arbitrate).pins = s.pins := rfl
@[simp] theorem State.arbitrate_resetCause : (s.arbitrate).resetCause = s.resetCause := rfl
@[simp] theorem State.arbitrate_now : (s.arbitrate).now = s.now := rfl
@[simp] theorem State.arbitrate_settleTimes : (s.arbitrate).settleTimes = s.settleTimes := rfl
@[simp] theorem State.arbitrate_lines : (s.arbitrate).lines = s.lines := rfl
@[simp] theorem State.arbitrate_journal : (s.arbitrate).journal = s.journal := rfl
@[simp] theorem State.arbitrate_schedule : (s.arbitrate).schedule = s.schedule := rfl
@[simp] theorem State.arbitrate_slots : (s.arbitrate).slots = s.slots := rfl
@[simp] theorem State.arbitrate_session : (s.arbitrate).session = s.session := rfl
@[simp] theorem State.arbitrate_store : (s.arbitrate).store = s.store := rfl
@[simp] theorem State.arbitrate_link : (s.arbitrate).link = s.link.arbitrate s.now := rfl
@[simp] theorem State.arbitrate_freeIx : (s.arbitrate).freeIx = s.freeIx := rfl

/-! #### `State.resetAfterReply` -/

@[simp] theorem State.resetAfterReply_pending : (s.resetAfterReply).pending = s.pending := rfl
@[simp] theorem State.resetAfterReply_pins : (s.resetAfterReply).pins = s.pins := rfl
@[simp] theorem State.resetAfterReply_resetCause : (s.resetAfterReply).resetCause = s.resetCause := rfl
@[simp] theorem State.resetAfterReply_now : (s.resetAfterReply).now = s.now := rfl
@[simp] theorem State.resetAfterReply_settleTimes :
    (s.resetAfterReply).settleTimes = s.settleTimes := rfl
@[simp] theorem State.resetAfterReply_lines : (s.resetAfterReply).lines = s.lines := rfl
@[simp] theorem State.resetAfterReply_journal : (s.resetAfterReply).journal = s.journal := rfl
@[simp] theorem State.resetAfterReply_schedule : (s.resetAfterReply).schedule = s.schedule := rfl
@[simp] theorem State.resetAfterReply_slots : (s.resetAfterReply).slots = s.slots := rfl
@[simp] theorem State.resetAfterReply_session : (s.resetAfterReply).session = s.session := rfl
@[simp] theorem State.resetAfterReply_store : (s.resetAfterReply).store = s.store := rfl
@[simp] theorem State.resetAfterReply_link :
    (s.resetAfterReply).link = { s.link with resetPending := true } := rfl
@[simp] theorem State.resetAfterReply_freeIx : (s.resetAfterReply).freeIx = s.freeIx := rfl

/-! #### `State.withJournal` -/

@[simp] theorem State.withJournal_pending (j : Journal) : (s.withJournal j).pending = s.pending := rfl
@[simp] theorem State.withJournal_pins (j : Journal) : (s.withJournal j).pins = s.pins := rfl
@[simp] theorem State.withJournal_resetCause (j : Journal) :
    (s.withJournal j).resetCause = s.resetCause := rfl
@[simp] theorem State.withJournal_now (j : Journal) : (s.withJournal j).now = s.now := rfl
@[simp] theorem State.withJournal_settleTimes (j : Journal) :
    (s.withJournal j).settleTimes = s.settleTimes := rfl
@[simp] theorem State.withJournal_lines (j : Journal) : (s.withJournal j).lines = s.lines := rfl
@[simp] theorem State.withJournal_journal (j : Journal) : (s.withJournal j).journal = j := rfl
@[simp] theorem State.withJournal_schedule (j : Journal) :
    (s.withJournal j).schedule = s.schedule := rfl
@[simp] theorem State.withJournal_slots (j : Journal) : (s.withJournal j).slots = s.slots := rfl
@[simp] theorem State.withJournal_session (j : Journal) : (s.withJournal j).session = s.session := rfl
@[simp] theorem State.withJournal_store (j : Journal) : (s.withJournal j).store = s.store := rfl
@[simp] theorem State.withJournal_link (j : Journal) : (s.withJournal j).link = s.link := rfl
@[simp] theorem State.withJournal_freeIx (j : Journal) : (s.withJournal j).freeIx = s.freeIx := rfl

/-! #### `State.setSlot` -/

@[simp] theorem State.setSlot_pending (k : SlotNo) (slot : Slot) :
    (s.setSlot k slot).pending = s.pending := rfl
@[simp] theorem State.setSlot_pins (k : SlotNo) (slot : Slot) : (s.setSlot k slot).pins = s.pins := rfl
@[simp] theorem State.setSlot_resetCause (k : SlotNo) (slot : Slot) :
    (s.setSlot k slot).resetCause = s.resetCause := rfl
@[simp] theorem State.setSlot_now (k : SlotNo) (slot : Slot) : (s.setSlot k slot).now = s.now := rfl
@[simp] theorem State.setSlot_settleTimes (k : SlotNo) (slot : Slot) :
    (s.setSlot k slot).settleTimes = s.settleTimes := rfl
@[simp] theorem State.setSlot_lines (k : SlotNo) (slot : Slot) :
    (s.setSlot k slot).lines = s.lines := rfl
@[simp] theorem State.setSlot_journal (k : SlotNo) (slot : Slot) :
    (s.setSlot k slot).journal = s.journal := rfl
@[simp] theorem State.setSlot_schedule (k : SlotNo) (slot : Slot) :
    (s.setSlot k slot).schedule = s.schedule := rfl
@[simp] theorem State.setSlot_slots (k : SlotNo) (slot : Slot) :
    (s.setSlot k slot).slots = s.slots.set k slot := rfl
@[simp] theorem State.setSlot_session (k : SlotNo) (slot : Slot) :
    (s.setSlot k slot).session = s.session := rfl
@[simp] theorem State.setSlot_store (k : SlotNo) (slot : Slot) :
    (s.setSlot k slot).store = s.store := rfl
@[simp] theorem State.setSlot_link (k : SlotNo) (slot : Slot) : (s.setSlot k slot).link = s.link := rfl
@[simp] theorem State.setSlot_freeIx (k : SlotNo) (slot : Slot) :
    (s.setSlot k slot).freeIx = s.freeIx := rfl

/-! #### `State.standDownAll` -/

@[simp] theorem State.standDownAll_pending : (s.standDownAll).pending = s.pending := by
  simp only [State.standDownAll]
@[simp] theorem State.standDownAll_pins : (s.standDownAll).pins = s.pins := by
  simp only [State.standDownAll]
@[simp] theorem State.standDownAll_resetCause : (s.standDownAll).resetCause = s.resetCause := by
  simp only [State.standDownAll]
@[simp] theorem State.standDownAll_now : (s.standDownAll).now = s.now := by
  simp only [State.standDownAll]
@[simp] theorem State.standDownAll_settleTimes : (s.standDownAll).settleTimes = s.settleTimes := by
  simp only [State.standDownAll]
@[simp] theorem State.standDownAll_lines : (s.standDownAll).lines = s.lines := by
  simp only [State.standDownAll]
@[simp] theorem State.standDownAll_journal : (s.standDownAll).journal = s.journal := by
  simp only [State.standDownAll]
@[simp] theorem State.standDownAll_schedule : (s.standDownAll).schedule = s.schedule := by
  simp only [State.standDownAll]
@[simp] theorem State.standDownAll_slots :
    (s.standDownAll).slots = Vector.ofFn fun k => s.slots[k].standDown := by
  simp only [State.standDownAll]
@[simp] theorem State.standDownAll_session : (s.standDownAll).session = s.session := by
  simp only [State.standDownAll]
@[simp] theorem State.standDownAll_store : (s.standDownAll).store = s.store := by
  simp only [State.standDownAll]
@[simp] theorem State.standDownAll_link : (s.standDownAll).link = s.link := by
  simp only [State.standDownAll]
@[simp] theorem State.standDownAll_freeIx : (s.standDownAll).freeIx = s.freeIx := by
  simp only [State.standDownAll]

/-! #### `State.withStaging` -/

@[simp] theorem State.withStaging_pending (g : Staging) : (s.withStaging g).pending = s.pending := rfl
@[simp] theorem State.withStaging_pins (g : Staging) : (s.withStaging g).pins = s.pins := rfl
@[simp] theorem State.withStaging_resetCause (g : Staging) :
    (s.withStaging g).resetCause = s.resetCause := rfl
@[simp] theorem State.withStaging_now (g : Staging) : (s.withStaging g).now = s.now := rfl
@[simp] theorem State.withStaging_settleTimes (g : Staging) :
    (s.withStaging g).settleTimes = s.settleTimes := rfl
@[simp] theorem State.withStaging_lines (g : Staging) : (s.withStaging g).lines = s.lines := rfl
@[simp] theorem State.withStaging_journal (g : Staging) : (s.withStaging g).journal = s.journal := rfl
@[simp] theorem State.withStaging_schedule (g : Staging) :
    (s.withStaging g).schedule = s.schedule := rfl
@[simp] theorem State.withStaging_slots (g : Staging) : (s.withStaging g).slots = s.slots := rfl
@[simp] theorem State.withStaging_session (g : Staging) : (s.withStaging g).session = s.session := rfl
@[simp] theorem State.withStaging_store (g : Staging) :
    (s.withStaging g).store = { s.store with staging := g } := rfl
@[simp] theorem State.withStaging_link (g : Staging) : (s.withStaging g).link = s.link := rfl
@[simp] theorem State.withStaging_freeIx (g : Staging) : (s.withStaging g).freeIx = s.freeIx := rfl

/-! #### `State.withOperation` -/

@[simp] theorem State.withOperation_pending (op : Operation) :
    (s.withOperation op).pending = s.pending := rfl
@[simp] theorem State.withOperation_pins (op : Operation) : (s.withOperation op).pins = s.pins := rfl
@[simp] theorem State.withOperation_resetCause (op : Operation) :
    (s.withOperation op).resetCause = s.resetCause := rfl
@[simp] theorem State.withOperation_now (op : Operation) : (s.withOperation op).now = s.now := rfl
@[simp] theorem State.withOperation_settleTimes (op : Operation) :
    (s.withOperation op).settleTimes = s.settleTimes := rfl
@[simp] theorem State.withOperation_lines (op : Operation) : (s.withOperation op).lines = s.lines := rfl
@[simp] theorem State.withOperation_journal (op : Operation) :
    (s.withOperation op).journal = s.journal := rfl
@[simp] theorem State.withOperation_schedule (op : Operation) :
    (s.withOperation op).schedule = s.schedule := rfl
@[simp] theorem State.withOperation_slots (op : Operation) : (s.withOperation op).slots = s.slots := rfl
@[simp] theorem State.withOperation_session (op : Operation) :
    (s.withOperation op).session = s.session := rfl
@[simp] theorem State.withOperation_store (op : Operation) :
    (s.withOperation op).store = { s.store with operation := op } := rfl
@[simp] theorem State.withOperation_link (op : Operation) : (s.withOperation op).link = s.link := rfl
@[simp] theorem State.withOperation_freeIx (op : Operation) :
    (s.withOperation op).freeIx = s.freeIx := rfl

/-! #### `State.withBoot` -/

@[simp] theorem State.withBoot_pending (r : BootResult) : (s.withBoot r).pending = s.pending := rfl
@[simp] theorem State.withBoot_pins (r : BootResult) : (s.withBoot r).pins = s.pins := rfl
@[simp] theorem State.withBoot_resetCause (r : BootResult) :
    (s.withBoot r).resetCause = s.resetCause := rfl
@[simp] theorem State.withBoot_now (r : BootResult) : (s.withBoot r).now = s.now := rfl
@[simp] theorem State.withBoot_settleTimes (r : BootResult) :
    (s.withBoot r).settleTimes = s.settleTimes := rfl
@[simp] theorem State.withBoot_lines (r : BootResult) : (s.withBoot r).lines = s.lines := rfl
@[simp] theorem State.withBoot_journal (r : BootResult) : (s.withBoot r).journal = s.journal := rfl
@[simp] theorem State.withBoot_schedule (r : BootResult) : (s.withBoot r).schedule = s.schedule := rfl
@[simp] theorem State.withBoot_slots (r : BootResult) : (s.withBoot r).slots = s.slots := rfl
@[simp] theorem State.withBoot_session (r : BootResult) : (s.withBoot r).session = s.session := rfl
@[simp] theorem State.withBoot_store (r : BootResult) :
    (s.withBoot r).store = { s.store with bootResult := r, bootSlot := s.store.media.bootValue } := rfl
@[simp] theorem State.withBoot_link (r : BootResult) : (s.withBoot r).link = s.link := rfl
@[simp] theorem State.withBoot_freeIx (r : BootResult) : (s.withBoot r).freeIx = s.freeIx := rfl

/-! #### `State.discardStaging` -/

@[simp] theorem State.discardStaging_pending : (s.discardStaging).pending = s.pending := rfl
@[simp] theorem State.discardStaging_pins : (s.discardStaging).pins = s.pins := rfl
@[simp] theorem State.discardStaging_resetCause : (s.discardStaging).resetCause = s.resetCause := rfl
@[simp] theorem State.discardStaging_now : (s.discardStaging).now = s.now := rfl
@[simp] theorem State.discardStaging_settleTimes : (s.discardStaging).settleTimes = s.settleTimes := rfl
@[simp] theorem State.discardStaging_lines : (s.discardStaging).lines = s.lines := rfl
@[simp] theorem State.discardStaging_journal : (s.discardStaging).journal = s.journal := rfl
@[simp] theorem State.discardStaging_schedule : (s.discardStaging).schedule = s.schedule := rfl
@[simp] theorem State.discardStaging_slots : (s.discardStaging).slots = s.slots := rfl
@[simp] theorem State.discardStaging_session : (s.discardStaging).session = s.session := rfl
@[simp] theorem State.discardStaging_store :
    (s.discardStaging).store = { s.store with staging := s.store.staging.discard } := rfl
@[simp] theorem State.discardStaging_link : (s.discardStaging).link = s.link := rfl
@[simp] theorem State.discardStaging_freeIx : (s.discardStaging).freeIx = s.freeIx := rfl

/-! #### `State.withSafeN` -/

@[simp] theorem State.withSafeN_pending (f : SafeFilter) : (s.withSafeN f).pending = s.pending := rfl
@[simp] theorem State.withSafeN_pins (f : SafeFilter) : (s.withSafeN f).pins = s.pins := rfl
@[simp] theorem State.withSafeN_resetCause (f : SafeFilter) :
    (s.withSafeN f).resetCause = s.resetCause := rfl
@[simp] theorem State.withSafeN_now (f : SafeFilter) : (s.withSafeN f).now = s.now := rfl
@[simp] theorem State.withSafeN_settleTimes (f : SafeFilter) :
    (s.withSafeN f).settleTimes = s.settleTimes := rfl
@[simp] theorem State.withSafeN_lines (f : SafeFilter) : (s.withSafeN f).lines = s.lines := rfl
@[simp] theorem State.withSafeN_journal (f : SafeFilter) : (s.withSafeN f).journal = s.journal := rfl
@[simp] theorem State.withSafeN_schedule (f : SafeFilter) : (s.withSafeN f).schedule = s.schedule := rfl
@[simp] theorem State.withSafeN_slots (f : SafeFilter) : (s.withSafeN f).slots = s.slots := rfl
@[simp] theorem State.withSafeN_session (f : SafeFilter) :
    (s.withSafeN f).session = { s.session with safeN := f } := rfl
@[simp] theorem State.withSafeN_store (f : SafeFilter) : (s.withSafeN f).store = s.store := rfl
@[simp] theorem State.withSafeN_link (f : SafeFilter) : (s.withSafeN f).link = s.link := rfl
@[simp] theorem State.withSafeN_freeIx (f : SafeFilter) : (s.withSafeN f).freeIx = s.freeIx := rfl

/-! #### `State.withSafeNPin` -/

@[simp] theorem State.withSafeNPin_pending (l : Level) : (s.withSafeNPin l).pending = s.pending := rfl
@[simp] theorem State.withSafeNPin_pins (l : Level) :
    (s.withSafeNPin l).pins = { s.pins with safeN := l } := rfl
@[simp] theorem State.withSafeNPin_resetCause (l : Level) :
    (s.withSafeNPin l).resetCause = s.resetCause := rfl
@[simp] theorem State.withSafeNPin_now (l : Level) : (s.withSafeNPin l).now = s.now := rfl
@[simp] theorem State.withSafeNPin_settleTimes (l : Level) :
    (s.withSafeNPin l).settleTimes = s.settleTimes := rfl
@[simp] theorem State.withSafeNPin_lines (l : Level) : (s.withSafeNPin l).lines = s.lines := rfl
@[simp] theorem State.withSafeNPin_journal (l : Level) : (s.withSafeNPin l).journal = s.journal := rfl
@[simp] theorem State.withSafeNPin_schedule (l : Level) :
    (s.withSafeNPin l).schedule = s.schedule := rfl
@[simp] theorem State.withSafeNPin_slots (l : Level) : (s.withSafeNPin l).slots = s.slots := rfl
@[simp] theorem State.withSafeNPin_session (l : Level) : (s.withSafeNPin l).session = s.session := rfl
@[simp] theorem State.withSafeNPin_store (l : Level) : (s.withSafeNPin l).store = s.store := rfl
@[simp] theorem State.withSafeNPin_link (l : Level) : (s.withSafeNPin l).link = s.link := rfl
@[simp] theorem State.withSafeNPin_freeIx (l : Level) : (s.withSafeNPin l).freeIx = s.freeIx := rfl

/-! #### `State.withPins` -/

@[simp] theorem State.withPins_pending (p : Pins) : (s.withPins p).pending = s.pending := rfl
@[simp] theorem State.withPins_pins (p : Pins) : (s.withPins p).pins = p := rfl
@[simp] theorem State.withPins_resetCause (p : Pins) : (s.withPins p).resetCause = s.resetCause := rfl
@[simp] theorem State.withPins_now (p : Pins) : (s.withPins p).now = s.now := rfl
@[simp] theorem State.withPins_settleTimes (p : Pins) :
    (s.withPins p).settleTimes = s.settleTimes := rfl
@[simp] theorem State.withPins_lines (p : Pins) : (s.withPins p).lines = s.lines := rfl
@[simp] theorem State.withPins_journal (p : Pins) : (s.withPins p).journal = s.journal := rfl
@[simp] theorem State.withPins_schedule (p : Pins) : (s.withPins p).schedule = s.schedule := rfl
@[simp] theorem State.withPins_slots (p : Pins) : (s.withPins p).slots = s.slots := rfl
@[simp] theorem State.withPins_session (p : Pins) : (s.withPins p).session = s.session := rfl
@[simp] theorem State.withPins_store (p : Pins) : (s.withPins p).store = s.store := rfl
@[simp] theorem State.withPins_link (p : Pins) : (s.withPins p).link = s.link := rfl
@[simp] theorem State.withPins_freeIx (p : Pins) : (s.withPins p).freeIx = s.freeIx := rfl

/-! #### `State.setSettleTimes` -/

@[simp] theorem State.setSettleTimes_pending (v : Vector Nat 4) :
    (s.setSettleTimes v).pending = s.pending := rfl
@[simp] theorem State.setSettleTimes_pins (v : Vector Nat 4) : (s.setSettleTimes v).pins = s.pins := rfl
@[simp] theorem State.setSettleTimes_resetCause (v : Vector Nat 4) :
    (s.setSettleTimes v).resetCause = s.resetCause := rfl
@[simp] theorem State.setSettleTimes_now (v : Vector Nat 4) : (s.setSettleTimes v).now = s.now := rfl
@[simp] theorem State.setSettleTimes_settleTimes (v : Vector Nat 4) :
    (s.setSettleTimes v).settleTimes = v := rfl
@[simp] theorem State.setSettleTimes_lines (v : Vector Nat 4) :
    (s.setSettleTimes v).lines = s.lines := rfl
@[simp] theorem State.setSettleTimes_journal (v : Vector Nat 4) :
    (s.setSettleTimes v).journal = s.journal := rfl
@[simp] theorem State.setSettleTimes_schedule (v : Vector Nat 4) :
    (s.setSettleTimes v).schedule = s.schedule := rfl
@[simp] theorem State.setSettleTimes_slots (v : Vector Nat 4) :
    (s.setSettleTimes v).slots = s.slots := rfl
@[simp] theorem State.setSettleTimes_session (v : Vector Nat 4) :
    (s.setSettleTimes v).session = s.session := rfl
@[simp] theorem State.setSettleTimes_store (v : Vector Nat 4) :
    (s.setSettleTimes v).store = s.store := rfl
@[simp] theorem State.setSettleTimes_link (v : Vector Nat 4) : (s.setSettleTimes v).link = s.link := rfl
@[simp] theorem State.setSettleTimes_freeIx (v : Vector Nat 4) :
    (s.setSettleTimes v).freeIx = s.freeIx := rfl

/-! #### `State.clearOutcomes` -/

@[simp] theorem State.clearOutcomes_pending : (s.clearOutcomes).pending = s.pending := rfl
@[simp] theorem State.clearOutcomes_pins : (s.clearOutcomes).pins = s.pins := rfl
@[simp] theorem State.clearOutcomes_resetCause : (s.clearOutcomes).resetCause = s.resetCause := rfl
@[simp] theorem State.clearOutcomes_now : (s.clearOutcomes).now = s.now := rfl
@[simp] theorem State.clearOutcomes_settleTimes : (s.clearOutcomes).settleTimes = s.settleTimes := rfl
@[simp] theorem State.clearOutcomes_lines : (s.clearOutcomes).lines = s.lines := rfl
@[simp] theorem State.clearOutcomes_journal : (s.clearOutcomes).journal = s.journal := rfl
@[simp] theorem State.clearOutcomes_schedule :
    (s.clearOutcomes).schedule = { s.schedule with outcomes := [] } := rfl
@[simp] theorem State.clearOutcomes_slots : (s.clearOutcomes).slots = s.slots := rfl
@[simp] theorem State.clearOutcomes_session : (s.clearOutcomes).session = s.session := rfl
@[simp] theorem State.clearOutcomes_store : (s.clearOutcomes).store = s.store := rfl
@[simp] theorem State.clearOutcomes_link : (s.clearOutcomes).link = s.link := rfl
@[simp] theorem State.clearOutcomes_freeIx : (s.clearOutcomes).freeIx = s.freeIx := rfl

/-! #### `State.beginSession` -/

@[simp] theorem State.beginSession_pending (ms : Nat) : (s.beginSession ms).pending = s.pending := rfl
@[simp] theorem State.beginSession_pins (ms : Nat) : (s.beginSession ms).pins = s.pins := rfl
@[simp] theorem State.beginSession_resetCause (ms : Nat) :
    (s.beginSession ms).resetCause = s.resetCause := rfl
@[simp] theorem State.beginSession_now (ms : Nat) : (s.beginSession ms).now = s.now := rfl
@[simp] theorem State.beginSession_settleTimes (ms : Nat) :
    (s.beginSession ms).settleTimes = s.settleTimes := rfl
@[simp] theorem State.beginSession_lines (ms : Nat) : (s.beginSession ms).lines = s.lines := rfl
@[simp] theorem State.beginSession_journal (ms : Nat) : (s.beginSession ms).journal = s.journal := rfl
@[simp] theorem State.beginSession_schedule (ms : Nat) :
    (s.beginSession ms).schedule = s.schedule := rfl
@[simp] theorem State.beginSession_slots (ms : Nat) : (s.beginSession ms).slots = s.slots := rfl
@[simp] theorem State.beginSession_session (ms : Nat) :
    (s.beginSession ms).session = s.session.begin ms s.now := rfl
@[simp] theorem State.beginSession_store (ms : Nat) : (s.beginSession ms).store = s.store := rfl
@[simp] theorem State.beginSession_link (ms : Nat) : (s.beginSession ms).link = s.link := rfl
@[simp] theorem State.beginSession_freeIx (ms : Nat) : (s.beginSession ms).freeIx = s.freeIx := rfl

/-! #### `State.renew` -/

@[simp] theorem State.renew_pending (lease : Option Nat) : (s.renew lease).pending = s.pending := rfl
@[simp] theorem State.renew_pins (lease : Option Nat) : (s.renew lease).pins = s.pins := rfl
@[simp] theorem State.renew_resetCause (lease : Option Nat) :
    (s.renew lease).resetCause = s.resetCause := rfl
@[simp] theorem State.renew_now (lease : Option Nat) : (s.renew lease).now = s.now := rfl
@[simp] theorem State.renew_settleTimes (lease : Option Nat) :
    (s.renew lease).settleTimes = s.settleTimes := rfl
@[simp] theorem State.renew_lines (lease : Option Nat) : (s.renew lease).lines = s.lines := rfl
@[simp] theorem State.renew_journal (lease : Option Nat) : (s.renew lease).journal = s.journal := rfl
@[simp] theorem State.renew_schedule (lease : Option Nat) : (s.renew lease).schedule = s.schedule := rfl
@[simp] theorem State.renew_slots (lease : Option Nat) : (s.renew lease).slots = s.slots := rfl
@[simp] theorem State.renew_session (lease : Option Nat) :
    (s.renew lease).session = s.session.renew lease s.now := rfl
@[simp] theorem State.renew_store (lease : Option Nat) : (s.renew lease).store = s.store := rfl
@[simp] theorem State.renew_link (lease : Option Nat) : (s.renew lease).link = s.link := rfl
@[simp] theorem State.renew_freeIx (lease : Option Nat) : (s.renew lease).freeIx = s.freeIx := rfl

/-! #### `State.addLineCause` -/

@[simp] theorem State.addLineCause_pending : (s.addLineCause).pending = s.pending := rfl
@[simp] theorem State.addLineCause_pins : (s.addLineCause).pins = s.pins := rfl
@[simp] theorem State.addLineCause_resetCause : (s.addLineCause).resetCause = s.resetCause := rfl
@[simp] theorem State.addLineCause_now : (s.addLineCause).now = s.now := rfl
@[simp] theorem State.addLineCause_settleTimes : (s.addLineCause).settleTimes = s.settleTimes := rfl
@[simp] theorem State.addLineCause_lines : (s.addLineCause).lines = s.lines := rfl
@[simp] theorem State.addLineCause_journal : (s.addLineCause).journal = s.journal := rfl
@[simp] theorem State.addLineCause_schedule : (s.addLineCause).schedule = s.schedule := rfl
@[simp] theorem State.addLineCause_slots : (s.addLineCause).slots = s.slots := rfl
@[simp] theorem State.addLineCause_session :
    (s.addLineCause).session = { s.session with record := s.session.record.map fun r => { r with hasLine := true } } := rfl
@[simp] theorem State.addLineCause_store : (s.addLineCause).store = s.store := rfl
@[simp] theorem State.addLineCause_link : (s.addLineCause).link = s.link := rfl
@[simp] theorem State.addLineCause_freeIx : (s.addLineCause).freeIx = s.freeIx := rfl

/-! #### `State.addRefs` -/

@[simp] theorem State.addRefs_pending (n : LineNo → Bool) : (s.addRefs n).pending = s.pending := by
  simp only [State.addRefs, State.mapLines_pending]
@[simp] theorem State.addRefs_pins (n : LineNo → Bool) : (s.addRefs n).pins = s.pins := by
  simp only [State.addRefs, State.mapLines_pins]
@[simp] theorem State.addRefs_resetCause (n : LineNo → Bool) :
    (s.addRefs n).resetCause = s.resetCause := by
  simp only [State.addRefs, State.mapLines_resetCause]
@[simp] theorem State.addRefs_now (n : LineNo → Bool) : (s.addRefs n).now = s.now := by
  simp only [State.addRefs, State.mapLines_now]
@[simp] theorem State.addRefs_settleTimes (n : LineNo → Bool) :
    (s.addRefs n).settleTimes = s.settleTimes := by
  simp only [State.addRefs, State.mapLines_settleTimes]
@[simp] theorem State.addRefs_journal (n : LineNo → Bool) : (s.addRefs n).journal = s.journal := by
  simp only [State.addRefs, State.mapLines_journal]
@[simp] theorem State.addRefs_schedule (n : LineNo → Bool) : (s.addRefs n).schedule = s.schedule := by
  simp only [State.addRefs, State.mapLines_schedule]
@[simp] theorem State.addRefs_slots (n : LineNo → Bool) : (s.addRefs n).slots = s.slots := by
  simp only [State.addRefs, State.mapLines_slots]
@[simp] theorem State.addRefs_session (n : LineNo → Bool) : (s.addRefs n).session = s.session := by
  simp only [State.addRefs, State.mapLines_session]
@[simp] theorem State.addRefs_store (n : LineNo → Bool) : (s.addRefs n).store = s.store := by
  simp only [State.addRefs, State.mapLines_store]
@[simp] theorem State.addRefs_link (n : LineNo → Bool) : (s.addRefs n).link = s.link := by
  simp only [State.addRefs, State.mapLines_link]
@[simp] theorem State.addRefs_freeIx (n : LineNo → Bool) : (s.addRefs n).freeIx = s.freeIx := by
  simp only [State.addRefs, State.mapLines_freeIx]

/-! #### `State.dropRefs` -/

@[simp] theorem State.dropRefs_pending (n : LineNo → Bool) : (s.dropRefs n).pending = s.pending := by
  simp only [State.dropRefs, State.mapLines_pending]
@[simp] theorem State.dropRefs_pins (n : LineNo → Bool) : (s.dropRefs n).pins = s.pins := by
  simp only [State.dropRefs, State.mapLines_pins]
@[simp] theorem State.dropRefs_resetCause (n : LineNo → Bool) :
    (s.dropRefs n).resetCause = s.resetCause := by
  simp only [State.dropRefs, State.mapLines_resetCause]
@[simp] theorem State.dropRefs_now (n : LineNo → Bool) : (s.dropRefs n).now = s.now := by
  simp only [State.dropRefs, State.mapLines_now]
@[simp] theorem State.dropRefs_settleTimes (n : LineNo → Bool) :
    (s.dropRefs n).settleTimes = s.settleTimes := by
  simp only [State.dropRefs, State.mapLines_settleTimes]
@[simp] theorem State.dropRefs_journal (n : LineNo → Bool) : (s.dropRefs n).journal = s.journal := by
  simp only [State.dropRefs, State.mapLines_journal]
@[simp] theorem State.dropRefs_schedule (n : LineNo → Bool) :
    (s.dropRefs n).schedule = s.schedule := by
  simp only [State.dropRefs, State.mapLines_schedule]
@[simp] theorem State.dropRefs_slots (n : LineNo → Bool) : (s.dropRefs n).slots = s.slots := by
  simp only [State.dropRefs, State.mapLines_slots]
@[simp] theorem State.dropRefs_session (n : LineNo → Bool) : (s.dropRefs n).session = s.session := by
  simp only [State.dropRefs, State.mapLines_session]
@[simp] theorem State.dropRefs_store (n : LineNo → Bool) : (s.dropRefs n).store = s.store := by
  simp only [State.dropRefs, State.mapLines_store]
@[simp] theorem State.dropRefs_link (n : LineNo → Bool) : (s.dropRefs n).link = s.link := by
  simp only [State.dropRefs, State.mapLines_link]
@[simp] theorem State.dropRefs_freeIx (n : LineNo → Bool) : (s.dropRefs n).freeIx = s.freeIx := by
  simp only [State.dropRefs, State.mapLines_freeIx]

/-! #### `State.applyTargets` -/

@[simp] theorem State.applyTargets_pending (c : ClaimClass) (o : Origin) (x : Option Nat) (ts : List Target) :
    (s.applyTargets c o x ts).pending = s.pending := by
  simp only [State.applyTargets, State.mapLines_pending]
@[simp] theorem State.applyTargets_pins (c : ClaimClass) (o : Origin) (x : Option Nat) (ts : List Target) :
    (s.applyTargets c o x ts).pins = s.pins := by
  simp only [State.applyTargets, State.mapLines_pins]
@[simp] theorem State.applyTargets_resetCause (c : ClaimClass) (o : Origin) (x : Option Nat) (ts : List Target) :
    (s.applyTargets c o x ts).resetCause = s.resetCause := by
  simp only [State.applyTargets, State.mapLines_resetCause]
@[simp] theorem State.applyTargets_now (c : ClaimClass) (o : Origin) (x : Option Nat) (ts : List Target) :
    (s.applyTargets c o x ts).now = s.now := by
  simp only [State.applyTargets, State.mapLines_now]
@[simp] theorem State.applyTargets_settleTimes (c : ClaimClass) (o : Origin) (x : Option Nat) (ts : List Target) :
    (s.applyTargets c o x ts).settleTimes = s.settleTimes := by
  simp only [State.applyTargets, State.mapLines_settleTimes]
@[simp] theorem State.applyTargets_journal (c : ClaimClass) (o : Origin) (x : Option Nat) (ts : List Target) :
    (s.applyTargets c o x ts).journal = s.journal := by
  simp only [State.applyTargets, State.mapLines_journal]
@[simp] theorem State.applyTargets_schedule (c : ClaimClass) (o : Origin) (x : Option Nat) (ts : List Target) :
    (s.applyTargets c o x ts).schedule = s.schedule := by
  simp only [State.applyTargets, State.mapLines_schedule]
@[simp] theorem State.applyTargets_slots (c : ClaimClass) (o : Origin) (x : Option Nat) (ts : List Target) :
    (s.applyTargets c o x ts).slots = s.slots := by
  simp only [State.applyTargets, State.mapLines_slots]
@[simp] theorem State.applyTargets_session (c : ClaimClass) (o : Origin) (x : Option Nat) (ts : List Target) :
    (s.applyTargets c o x ts).session = s.session := by
  simp only [State.applyTargets, State.mapLines_session]
@[simp] theorem State.applyTargets_store (c : ClaimClass) (o : Origin) (x : Option Nat) (ts : List Target) :
    (s.applyTargets c o x ts).store = s.store := by
  simp only [State.applyTargets, State.mapLines_store]
@[simp] theorem State.applyTargets_link (c : ClaimClass) (o : Origin) (x : Option Nat) (ts : List Target) :
    (s.applyTargets c o x ts).link = s.link := by
  simp only [State.applyTargets, State.mapLines_link]
@[simp] theorem State.applyTargets_freeIx (c : ClaimClass) (o : Origin) (x : Option Nat) (ts : List Target) :
    (s.applyTargets c o x ts).freeIx = s.freeIx := by
  simp only [State.applyTargets, State.mapLines_freeIx]

/-! #### `State.dropClaims` -/

@[simp] theorem State.dropClaims_pending (c : ClaimClass) (p : Claim → Bool) :
    (s.dropClaims c p).pending = s.pending := by
  simp only [State.dropClaims, State.mapLines_pending]
@[simp] theorem State.dropClaims_pins (c : ClaimClass) (p : Claim → Bool) :
    (s.dropClaims c p).pins = s.pins := by
  simp only [State.dropClaims, State.mapLines_pins]
@[simp] theorem State.dropClaims_resetCause (c : ClaimClass) (p : Claim → Bool) :
    (s.dropClaims c p).resetCause = s.resetCause := by
  simp only [State.dropClaims, State.mapLines_resetCause]
@[simp] theorem State.dropClaims_now (c : ClaimClass) (p : Claim → Bool) :
    (s.dropClaims c p).now = s.now := by
  simp only [State.dropClaims, State.mapLines_now]
@[simp] theorem State.dropClaims_settleTimes (c : ClaimClass) (p : Claim → Bool) :
    (s.dropClaims c p).settleTimes = s.settleTimes := by
  simp only [State.dropClaims, State.mapLines_settleTimes]
@[simp] theorem State.dropClaims_journal (c : ClaimClass) (p : Claim → Bool) :
    (s.dropClaims c p).journal = s.journal := by
  simp only [State.dropClaims, State.mapLines_journal]
@[simp] theorem State.dropClaims_schedule (c : ClaimClass) (p : Claim → Bool) :
    (s.dropClaims c p).schedule = s.schedule := by
  simp only [State.dropClaims, State.mapLines_schedule]
@[simp] theorem State.dropClaims_slots (c : ClaimClass) (p : Claim → Bool) :
    (s.dropClaims c p).slots = s.slots := by
  simp only [State.dropClaims, State.mapLines_slots]
@[simp] theorem State.dropClaims_session (c : ClaimClass) (p : Claim → Bool) :
    (s.dropClaims c p).session = s.session := by
  simp only [State.dropClaims, State.mapLines_session]
@[simp] theorem State.dropClaims_store (c : ClaimClass) (p : Claim → Bool) :
    (s.dropClaims c p).store = s.store := by
  simp only [State.dropClaims, State.mapLines_store]
@[simp] theorem State.dropClaims_link (c : ClaimClass) (p : Claim → Bool) :
    (s.dropClaims c p).link = s.link := by
  simp only [State.dropClaims, State.mapLines_link]
@[simp] theorem State.dropClaims_freeIx (c : ClaimClass) (p : Claim → Bool) :
    (s.dropClaims c p).freeIx = s.freeIx := by
  simp only [State.dropClaims, State.mapLines_freeIx]

/-! #### `State.dropAllClaims` -/

@[simp] theorem State.dropAllClaims_pending : (s.dropAllClaims).pending = s.pending := by
  simp only [State.dropAllClaims, State.mapLines_pending]
@[simp] theorem State.dropAllClaims_pins : (s.dropAllClaims).pins = s.pins := by
  simp only [State.dropAllClaims, State.mapLines_pins]
@[simp] theorem State.dropAllClaims_resetCause : (s.dropAllClaims).resetCause = s.resetCause := by
  simp only [State.dropAllClaims, State.mapLines_resetCause]
@[simp] theorem State.dropAllClaims_now : (s.dropAllClaims).now = s.now := by
  simp only [State.dropAllClaims, State.mapLines_now]
@[simp] theorem State.dropAllClaims_settleTimes : (s.dropAllClaims).settleTimes = s.settleTimes := by
  simp only [State.dropAllClaims, State.mapLines_settleTimes]
@[simp] theorem State.dropAllClaims_journal : (s.dropAllClaims).journal = s.journal := by
  simp only [State.dropAllClaims, State.mapLines_journal]
@[simp] theorem State.dropAllClaims_schedule : (s.dropAllClaims).schedule = s.schedule := by
  simp only [State.dropAllClaims, State.mapLines_schedule]
@[simp] theorem State.dropAllClaims_slots : (s.dropAllClaims).slots = s.slots := by
  simp only [State.dropAllClaims, State.mapLines_slots]
@[simp] theorem State.dropAllClaims_session : (s.dropAllClaims).session = s.session := by
  simp only [State.dropAllClaims, State.mapLines_session]
@[simp] theorem State.dropAllClaims_store : (s.dropAllClaims).store = s.store := by
  simp only [State.dropAllClaims, State.mapLines_store]
@[simp] theorem State.dropAllClaims_link : (s.dropAllClaims).link = s.link := by
  simp only [State.dropAllClaims, State.mapLines_link]
@[simp] theorem State.dropAllClaims_freeIx : (s.dropAllClaims).freeIx = s.freeIx := by
  simp only [State.dropAllClaims, State.mapLines_freeIx]

/-! #### `State.dropFailsafeClaims` -/

@[simp] theorem State.dropFailsafeClaims_pending : (s.dropFailsafeClaims).pending = s.pending := by
  simp only [State.dropFailsafeClaims, State.mapLines_pending]
@[simp] theorem State.dropFailsafeClaims_pins : (s.dropFailsafeClaims).pins = s.pins := by
  simp only [State.dropFailsafeClaims, State.mapLines_pins]
@[simp] theorem State.dropFailsafeClaims_resetCause :
    (s.dropFailsafeClaims).resetCause = s.resetCause := by
  simp only [State.dropFailsafeClaims, State.mapLines_resetCause]
@[simp] theorem State.dropFailsafeClaims_now : (s.dropFailsafeClaims).now = s.now := by
  simp only [State.dropFailsafeClaims, State.mapLines_now]
@[simp] theorem State.dropFailsafeClaims_settleTimes :
    (s.dropFailsafeClaims).settleTimes = s.settleTimes := by
  simp only [State.dropFailsafeClaims, State.mapLines_settleTimes]
@[simp] theorem State.dropFailsafeClaims_journal : (s.dropFailsafeClaims).journal = s.journal := by
  simp only [State.dropFailsafeClaims, State.mapLines_journal]
@[simp] theorem State.dropFailsafeClaims_schedule : (s.dropFailsafeClaims).schedule = s.schedule := by
  simp only [State.dropFailsafeClaims, State.mapLines_schedule]
@[simp] theorem State.dropFailsafeClaims_slots : (s.dropFailsafeClaims).slots = s.slots := by
  simp only [State.dropFailsafeClaims, State.mapLines_slots]
@[simp] theorem State.dropFailsafeClaims_session : (s.dropFailsafeClaims).session = s.session := by
  simp only [State.dropFailsafeClaims, State.mapLines_session]
@[simp] theorem State.dropFailsafeClaims_store : (s.dropFailsafeClaims).store = s.store := by
  simp only [State.dropFailsafeClaims, State.mapLines_store]
@[simp] theorem State.dropFailsafeClaims_link : (s.dropFailsafeClaims).link = s.link := by
  simp only [State.dropFailsafeClaims, State.mapLines_link]
@[simp] theorem State.dropFailsafeClaims_freeIx : (s.dropFailsafeClaims).freeIx = s.freeIx := by
  simp only [State.dropFailsafeClaims, State.mapLines_freeIx]

/-! #### `State.configureLines` -/

@[simp] theorem State.configureLines_pending (xs : List LineSetting) :
    (s.configureLines xs).pending = s.pending := by
  simp only [State.configureLines, State.mapLines_pending]
@[simp] theorem State.configureLines_pins (xs : List LineSetting) :
    (s.configureLines xs).pins = s.pins := by
  simp only [State.configureLines, State.mapLines_pins]
@[simp] theorem State.configureLines_resetCause (xs : List LineSetting) :
    (s.configureLines xs).resetCause = s.resetCause := by
  simp only [State.configureLines, State.mapLines_resetCause]
@[simp] theorem State.configureLines_now (xs : List LineSetting) :
    (s.configureLines xs).now = s.now := by
  simp only [State.configureLines, State.mapLines_now]
@[simp] theorem State.configureLines_settleTimes (xs : List LineSetting) :
    (s.configureLines xs).settleTimes = s.settleTimes := by
  simp only [State.configureLines, State.mapLines_settleTimes]
@[simp] theorem State.configureLines_journal (xs : List LineSetting) :
    (s.configureLines xs).journal = s.journal := by
  simp only [State.configureLines, State.mapLines_journal]
@[simp] theorem State.configureLines_schedule (xs : List LineSetting) :
    (s.configureLines xs).schedule = s.schedule := by
  simp only [State.configureLines, State.mapLines_schedule]
@[simp] theorem State.configureLines_slots (xs : List LineSetting) :
    (s.configureLines xs).slots = s.slots := by
  simp only [State.configureLines, State.mapLines_slots]
@[simp] theorem State.configureLines_session (xs : List LineSetting) :
    (s.configureLines xs).session = s.session := by
  simp only [State.configureLines, State.mapLines_session]
@[simp] theorem State.configureLines_store (xs : List LineSetting) :
    (s.configureLines xs).store = s.store := by
  simp only [State.configureLines, State.mapLines_store]
@[simp] theorem State.configureLines_link (xs : List LineSetting) :
    (s.configureLines xs).link = s.link := by
  simp only [State.configureLines, State.mapLines_link]
@[simp] theorem State.configureLines_freeIx (xs : List LineSetting) :
    (s.configureLines xs).freeIx = s.freeIx := by
  simp only [State.configureLines, State.mapLines_freeIx]

/-! #### `State.setBases` -/

@[simp] theorem State.setBases_pending (xs : List BaseSetting) :
    (s.setBases xs).pending = s.pending := by
  simp only [State.setBases, State.mapLines_pending]
@[simp] theorem State.setBases_pins (xs : List BaseSetting) : (s.setBases xs).pins = s.pins := by
  simp only [State.setBases, State.mapLines_pins]
@[simp] theorem State.setBases_resetCause (xs : List BaseSetting) :
    (s.setBases xs).resetCause = s.resetCause := by
  simp only [State.setBases, State.mapLines_resetCause]
@[simp] theorem State.setBases_now (xs : List BaseSetting) : (s.setBases xs).now = s.now := by
  simp only [State.setBases, State.mapLines_now]
@[simp] theorem State.setBases_settleTimes (xs : List BaseSetting) :
    (s.setBases xs).settleTimes = s.settleTimes := by
  simp only [State.setBases, State.mapLines_settleTimes]
@[simp] theorem State.setBases_journal (xs : List BaseSetting) :
    (s.setBases xs).journal = s.journal := by
  simp only [State.setBases, State.mapLines_journal]
@[simp] theorem State.setBases_schedule (xs : List BaseSetting) :
    (s.setBases xs).schedule = s.schedule := by
  simp only [State.setBases, State.mapLines_schedule]
@[simp] theorem State.setBases_slots (xs : List BaseSetting) : (s.setBases xs).slots = s.slots := by
  simp only [State.setBases, State.mapLines_slots]
@[simp] theorem State.setBases_session (xs : List BaseSetting) :
    (s.setBases xs).session = s.session := by
  simp only [State.setBases, State.mapLines_session]
@[simp] theorem State.setBases_store (xs : List BaseSetting) : (s.setBases xs).store = s.store := by
  simp only [State.setBases, State.mapLines_store]
@[simp] theorem State.setBases_link (xs : List BaseSetting) : (s.setBases xs).link = s.link := by
  simp only [State.setBases, State.mapLines_link]
@[simp] theorem State.setBases_freeIx (xs : List BaseSetting) : (s.setBases xs).freeIx = s.freeIx := by
  simp only [State.setBases, State.mapLines_freeIx]

/-! #### `State.setSpecs` -/

@[simp] theorem State.setSpecs_pending (xs : List SpecSetting) :
    (s.setSpecs xs).pending = s.pending := by
  simp only [State.setSpecs, State.mapLines_pending]
@[simp] theorem State.setSpecs_pins (xs : List SpecSetting) : (s.setSpecs xs).pins = s.pins := by
  simp only [State.setSpecs, State.mapLines_pins]
@[simp] theorem State.setSpecs_resetCause (xs : List SpecSetting) :
    (s.setSpecs xs).resetCause = s.resetCause := by
  simp only [State.setSpecs, State.mapLines_resetCause]
@[simp] theorem State.setSpecs_now (xs : List SpecSetting) : (s.setSpecs xs).now = s.now := by
  simp only [State.setSpecs, State.mapLines_now]
@[simp] theorem State.setSpecs_settleTimes (xs : List SpecSetting) :
    (s.setSpecs xs).settleTimes = s.settleTimes := by
  simp only [State.setSpecs, State.mapLines_settleTimes]
@[simp] theorem State.setSpecs_journal (xs : List SpecSetting) :
    (s.setSpecs xs).journal = s.journal := by
  simp only [State.setSpecs, State.mapLines_journal]
@[simp] theorem State.setSpecs_schedule (xs : List SpecSetting) :
    (s.setSpecs xs).schedule = s.schedule := by
  simp only [State.setSpecs, State.mapLines_schedule]
@[simp] theorem State.setSpecs_slots (xs : List SpecSetting) : (s.setSpecs xs).slots = s.slots := by
  simp only [State.setSpecs, State.mapLines_slots]
@[simp] theorem State.setSpecs_session (xs : List SpecSetting) :
    (s.setSpecs xs).session = s.session := by
  simp only [State.setSpecs, State.mapLines_session]
@[simp] theorem State.setSpecs_store (xs : List SpecSetting) : (s.setSpecs xs).store = s.store := by
  simp only [State.setSpecs, State.mapLines_store]
@[simp] theorem State.setSpecs_link (xs : List SpecSetting) : (s.setSpecs xs).link = s.link := by
  simp only [State.setSpecs, State.mapLines_link]
@[simp] theorem State.setSpecs_freeIx (xs : List SpecSetting) : (s.setSpecs xs).freeIx = s.freeIx := by
  simp only [State.setSpecs, State.mapLines_freeIx]

/-! #### `State.pinLines` -/

@[simp] theorem State.pinLines_pending (xs : List PinItem) : (s.pinLines xs).pending = s.pending := by
  simp only [State.pinLines, State.mapLines_pending]
@[simp] theorem State.pinLines_pins (xs : List PinItem) : (s.pinLines xs).pins = s.pins := by
  simp only [State.pinLines, State.mapLines_pins]
@[simp] theorem State.pinLines_resetCause (xs : List PinItem) :
    (s.pinLines xs).resetCause = s.resetCause := by
  simp only [State.pinLines, State.mapLines_resetCause]
@[simp] theorem State.pinLines_now (xs : List PinItem) : (s.pinLines xs).now = s.now := by
  simp only [State.pinLines, State.mapLines_now]
@[simp] theorem State.pinLines_settleTimes (xs : List PinItem) :
    (s.pinLines xs).settleTimes = s.settleTimes := by
  simp only [State.pinLines, State.mapLines_settleTimes]
@[simp] theorem State.pinLines_journal (xs : List PinItem) : (s.pinLines xs).journal = s.journal := by
  simp only [State.pinLines, State.mapLines_journal]
@[simp] theorem State.pinLines_schedule (xs : List PinItem) :
    (s.pinLines xs).schedule = s.schedule := by
  simp only [State.pinLines, State.mapLines_schedule]
@[simp] theorem State.pinLines_slots (xs : List PinItem) : (s.pinLines xs).slots = s.slots := by
  simp only [State.pinLines, State.mapLines_slots]
@[simp] theorem State.pinLines_session (xs : List PinItem) : (s.pinLines xs).session = s.session := by
  simp only [State.pinLines, State.mapLines_session]
@[simp] theorem State.pinLines_store (xs : List PinItem) : (s.pinLines xs).store = s.store := by
  simp only [State.pinLines, State.mapLines_store]
@[simp] theorem State.pinLines_link (xs : List PinItem) : (s.pinLines xs).link = s.link := by
  simp only [State.pinLines, State.mapLines_link]
@[simp] theorem State.pinLines_freeIx (xs : List PinItem) : (s.pinLines xs).freeIx = s.freeIx := by
  simp only [State.pinLines, State.mapLines_freeIx]

/-! #### `State.unpin` -/

@[simp] theorem State.unpin_pending (p : LineNo → Bool) : (s.unpin p).pending = s.pending := by
  simp only [State.unpin, State.mapLines_pending]
@[simp] theorem State.unpin_pins (p : LineNo → Bool) : (s.unpin p).pins = s.pins := by
  simp only [State.unpin, State.mapLines_pins]
@[simp] theorem State.unpin_resetCause (p : LineNo → Bool) :
    (s.unpin p).resetCause = s.resetCause := by
  simp only [State.unpin, State.mapLines_resetCause]
@[simp] theorem State.unpin_now (p : LineNo → Bool) : (s.unpin p).now = s.now := by
  simp only [State.unpin, State.mapLines_now]
@[simp] theorem State.unpin_settleTimes (p : LineNo → Bool) :
    (s.unpin p).settleTimes = s.settleTimes := by
  simp only [State.unpin, State.mapLines_settleTimes]
@[simp] theorem State.unpin_journal (p : LineNo → Bool) : (s.unpin p).journal = s.journal := by
  simp only [State.unpin, State.mapLines_journal]
@[simp] theorem State.unpin_schedule (p : LineNo → Bool) : (s.unpin p).schedule = s.schedule := by
  simp only [State.unpin, State.mapLines_schedule]
@[simp] theorem State.unpin_slots (p : LineNo → Bool) : (s.unpin p).slots = s.slots := by
  simp only [State.unpin, State.mapLines_slots]
@[simp] theorem State.unpin_session (p : LineNo → Bool) : (s.unpin p).session = s.session := by
  simp only [State.unpin, State.mapLines_session]
@[simp] theorem State.unpin_store (p : LineNo → Bool) : (s.unpin p).store = s.store := by
  simp only [State.unpin, State.mapLines_store]
@[simp] theorem State.unpin_link (p : LineNo → Bool) : (s.unpin p).link = s.link := by
  simp only [State.unpin, State.mapLines_link]
@[simp] theorem State.unpin_freeIx (p : LineNo → Bool) : (s.unpin p).freeIx = s.freeIx := by
  simp only [State.unpin, State.mapLines_freeIx]

/-! #### `State.clearGlitches` -/

@[simp] theorem State.clearGlitches_pending (i : LineNo) :
    (s.clearGlitches i).pending = s.pending := by
  simp only [State.clearGlitches, State.updateLine_pending]
@[simp] theorem State.clearGlitches_pins (i : LineNo) : (s.clearGlitches i).pins = s.pins := by
  simp only [State.clearGlitches, State.updateLine_pins]
@[simp] theorem State.clearGlitches_resetCause (i : LineNo) :
    (s.clearGlitches i).resetCause = s.resetCause := by
  simp only [State.clearGlitches, State.updateLine_resetCause]
@[simp] theorem State.clearGlitches_now (i : LineNo) : (s.clearGlitches i).now = s.now := by
  simp only [State.clearGlitches, State.updateLine_now]
@[simp] theorem State.clearGlitches_settleTimes (i : LineNo) :
    (s.clearGlitches i).settleTimes = s.settleTimes := by
  simp only [State.clearGlitches, State.updateLine_settleTimes]
@[simp] theorem State.clearGlitches_journal (i : LineNo) :
    (s.clearGlitches i).journal = s.journal := by
  simp only [State.clearGlitches, State.updateLine_journal]
@[simp] theorem State.clearGlitches_schedule (i : LineNo) :
    (s.clearGlitches i).schedule = s.schedule := by
  simp only [State.clearGlitches, State.updateLine_schedule]
@[simp] theorem State.clearGlitches_slots (i : LineNo) : (s.clearGlitches i).slots = s.slots := by
  simp only [State.clearGlitches, State.updateLine_slots]
@[simp] theorem State.clearGlitches_session (i : LineNo) :
    (s.clearGlitches i).session = s.session := by
  simp only [State.clearGlitches, State.updateLine_session]
@[simp] theorem State.clearGlitches_store (i : LineNo) : (s.clearGlitches i).store = s.store := by
  simp only [State.clearGlitches, State.updateLine_store]
@[simp] theorem State.clearGlitches_link (i : LineNo) : (s.clearGlitches i).link = s.link := by
  simp only [State.clearGlitches, State.updateLine_link]
@[simp] theorem State.clearGlitches_freeIx (i : LineNo) : (s.clearGlitches i).freeIx = s.freeIx := by
  simp only [State.clearGlitches, State.updateLine_freeIx]

/-! #### `State.resampleStraps` -/

@[simp] theorem State.resampleStraps_pending : s.resampleStraps.pending = s.pending := rfl
@[simp] theorem State.resampleStraps_pins :
    s.resampleStraps.pins =
      { s.pins with
        rate1 := Config.strapLevel s.freeIx, rate0 := Config.strapLevel (s.freeIx + 1) } := rfl
@[simp] theorem State.resampleStraps_resetCause : s.resampleStraps.resetCause = s.resetCause := rfl
@[simp] theorem State.resampleStraps_now : s.resampleStraps.now = s.now := rfl
@[simp] theorem State.resampleStraps_settleTimes :
    s.resampleStraps.settleTimes = s.settleTimes := rfl
@[simp] theorem State.resampleStraps_lines : s.resampleStraps.lines = s.lines := rfl
@[simp] theorem State.resampleStraps_journal : s.resampleStraps.journal = s.journal := rfl
@[simp] theorem State.resampleStraps_schedule : s.resampleStraps.schedule = s.schedule := rfl
@[simp] theorem State.resampleStraps_slots : s.resampleStraps.slots = s.slots := rfl
@[simp] theorem State.resampleStraps_session : s.resampleStraps.session = s.session := rfl
@[simp] theorem State.resampleStraps_store : s.resampleStraps.store = s.store := rfl
@[simp] theorem State.resampleStraps_link : s.resampleStraps.link = s.link := rfl
@[simp] theorem State.resampleStraps_freeIx : s.resampleStraps.freeIx = s.freeIx + 2 := rfl

/-! #### `State.latchSafeN` -/

@[simp] theorem State.latchSafeN_pending : s.latchSafeN.pending = s.pending := rfl
@[simp] theorem State.latchSafeN_pins : s.latchSafeN.pins = s.pins := rfl
@[simp] theorem State.latchSafeN_resetCause : s.latchSafeN.resetCause = s.resetCause := rfl
@[simp] theorem State.latchSafeN_now : s.latchSafeN.now = s.now := rfl
@[simp] theorem State.latchSafeN_settleTimes : s.latchSafeN.settleTimes = s.settleTimes := rfl
@[simp] theorem State.latchSafeN_lines : s.latchSafeN.lines = s.lines := rfl
@[simp] theorem State.latchSafeN_journal : s.latchSafeN.journal = s.journal := rfl
@[simp] theorem State.latchSafeN_schedule : s.latchSafeN.schedule = s.schedule := rfl
@[simp] theorem State.latchSafeN_slots : s.latchSafeN.slots = s.slots := rfl
@[simp] theorem State.latchSafeN_session :
    s.latchSafeN.session = { s.session with safeN := { s.session.safeN with sampled := false } } := rfl
@[simp] theorem State.latchSafeN_store : s.latchSafeN.store = s.store := rfl
@[simp] theorem State.latchSafeN_link : s.latchSafeN.link = s.link := rfl
@[simp] theorem State.latchSafeN_freeIx : s.latchSafeN.freeIx = s.freeIx := rfl

/-! ### One line after a change of lines -/

variable {s}

/-- A line after a change of every line. -/
@[simp] theorem State.mapLines_line (f : LineNo → Line → Line) (i : LineNo) :
    (s.mapLines f).lines[i] = f i s.lines[i] := by
  simp [State.mapLines]

/-- A line after a change of one line. -/
theorem State.updateLine_line (i j : LineNo) (f : Line → Line) :
    (s.updateLine i f).lines[j] = if i = j then f s.lines[j] else s.lines[j] := by
  by_cases h : i = j
  · subst h; simp [State.updateLine]
  · have hv : i.val ≠ j.val := fun hh => h (Fin.ext hh)
    simp [State.updateLine, h, hv]

/-- A slot after a change of one slot. -/
theorem State.setSlot_slot (k j : SlotNo) (slot : Slot) :
    (s.setSlot k slot).slots[j] = if k = j then slot else s.slots[j] := by
  by_cases h : k = j
  · subst h; simp [State.setSlot]
  · have hv : k.val ≠ j.val := fun hh => h (Fin.ext hh)
    simp [State.setSlot, h, hv]

/-- A slot after every slot has stood down. -/
@[simp] theorem State.standDownAll_slot (k : SlotNo) :
    s.standDownAll.slots[k] = s.slots[k].standDown := by
  simp [State.standDownAll]

end Sys2Proof.Machine
end

