-- ==== Sys2Proof/Laws/Journal.lean ====
section
/-! SUPPORT. What the shared operations of the Edge Journal do: the three ways of taking an edge, and the ready
check. -/

namespace Sys2Proof.Machine

/-- The ready check on a journal, as the statements say it (R58). -/
theorem State.checkReady_eq (s : State) (j : Journal) :
    ({ s with journal := j }).checkReady = s.journaled j := by
  unfold State.checkReady State.journaled
  cases ha : j.armed
  · simp
  · by_cases ht : j.threshold ≤ j.records.length
    · simp only [Journal.held, ht, decide_true, Bool.and_self, if_true, and_self]
    · simp [Journal.held, ht]

/-- A journaled edge, as the statements say it (R47, R58). -/
theorem State.takeJournalEdge_eq (s : State) (e : Edge) :
    s.takeJournalEdge e =
      if s.lines[e.line].config.sense.journals e.direction = true then
        s.journaled (s.journal.append e (s.bankSnapshot e.line))
      else s := by
  unfold State.takeJournalEdge State.journals
  rw [State.checkReady_eq]

/-- The newest record changed, where there is one. -/
theorem changeNewest_append (f : JournalRecord → JournalRecord) (rs : List JournalRecord)
    (r : JournalRecord) : changeNewest f (rs ++ [r]) = rs ++ [f r] := by
  simp [changeNewest]

@[simp] theorem changeNewest_length (f : JournalRecord → JournalRecord) (rs : List JournalRecord) :
    (changeNewest f rs).length = rs.length := by
  rcases List.eq_nil_or_concat rs with rfl | ⟨rs, r, rfl⟩
  · rfl
  · simp [changeNewest]

@[simp] theorem JournalRecord.close_seq (r : JournalRecord) : r.close.seq = r.seq := by
  cases r <;> rfl

@[simp] theorem JournalRecord.countIn_seq (t : Nat) (r : JournalRecord) :
    (r.countIn t).seq = r.seq := by
  cases r <;> rfl

/-- A closed record is no open GAP. -/
@[simp] theorem JournalRecord.close_isOpenGap (r : JournalRecord) : r.close.isOpenGap = false := by
  cases r <;> rfl

end Sys2Proof.Machine
end

