-- ==== Sys2Proof/Laws/Lines.lean ====
section
/-! SUPPORT. What the shared operations of the Drive Arbiter do, in the terms of the statements: claim sets,
configuration, targets, references and claims removed. -/

namespace Sys2Proof.Machine

/-! ### Claim sets -/

@[simp] theorem ClaimSet.get_set (c : ClaimSet) (cls other : ClaimClass) (x : Option Claim) :
    (c.set cls x).get other = if other = cls then x else c.get other := by
  cases cls <;> cases other <;> rfl

/-- Two claim sets are equal when they hold the same claim in each class. -/
theorem ClaimSet.ext_get {c d : ClaimSet} (h : ∀ cls, c.get cls = d.get cls) : c = d := by
  have h1 := h .failsafe; have h2 := h .pin; have h3 := h .trigger; have h4 := h .schedule
  have h5 := h .base
  cases c; cases d
  simp only [ClaimSet.get] at h1 h2 h3 h4 h5
  subst h1 h2 h3 h4 h5; rfl

/-! ### One line -/

@[simp] theorem Line.drop_config (l : Line) (cls : ClaimClass) : (l.drop cls).config = l.config := rfl
@[simp] theorem Line.drop_filter (l : Line) (cls : ClaimClass) : (l.drop cls).filter = l.filter := rfl
@[simp] theorem Line.drop_refs (l : Line) (cls : ClaimClass) : (l.drop cls).refs = l.refs := rfl
@[simp] theorem Line.drop_glitches (l : Line) (cls : ClaimClass) :
    (l.drop cls).glitches = l.glitches := rfl
@[simp] theorem Line.drop_claims (l : Line) (cls : ClaimClass) :
    (l.drop cls).claims = l.claims.set cls none := rfl

/-- A line configured, as the statements say it (R13, R14, R33). -/
theorem Line.configure_eq (l : Line) (c : LineConfig) : l.configure c = l.configured c := by
  obtain ⟨⟨m, b, k, j, p⟩, claims, refs, f, g, x⟩ := l
  obtain ⟨m', b', k', j', p'⟩ := c
  cases m <;> cases m' <;> rfl

/-- A target applied to a line, as the statements say it (R7, R8). -/
theorem Line.applyTarget_eq (l : Line) (cls : ClaimClass) (o : Origin) (e : Option Nat)
    (v : TargetValue) : l.applyTarget cls o e v = l.targeted cls o e v := by
  unfold Line.targeted
  cases v <;> simp only [Line.applyTarget, Line.place, Line.toggled, Level.inv]
  · cases hc : l.claims.get cls <;> rfl
  · rfl

@[simp] theorem Line.targeted_config (l : Line) (cls : ClaimClass) (o : Origin) (e : Option Nat)
    (v : TargetValue) : (l.targeted cls o e v).config = l.config := by
  rw [← Line.applyTarget_eq]
  cases v <;> simp only [Line.applyTarget, Line.place, Line.drop] <;> split <;> rfl

@[simp] theorem Line.targeted_filter (l : Line) (cls : ClaimClass) (o : Origin) (e : Option Nat)
    (v : TargetValue) : (l.targeted cls o e v).filter = l.filter := by
  rw [← Line.applyTarget_eq]
  cases v <;> simp only [Line.applyTarget, Line.place, Line.drop] <;> split <;> rfl

@[simp] theorem Line.targeted_refs (l : Line) (cls : ClaimClass) (o : Origin) (e : Option Nat)
    (v : TargetValue) : (l.targeted cls o e v).refs = l.refs := by
  rw [← Line.applyTarget_eq]
  cases v <;> simp only [Line.applyTarget, Line.place, Line.drop] <;> split <;> rfl

/-- A line at failsafe entry, as the statements say it (R23). -/
theorem Line.enterFailsafe_claims (l : Line) :
    l.enterFailsafe.claims =
      { l.claims with
        failsafe := if l.isOutput then l.forcedClaim else l.claims.failsafe
        pin := none, trigger := none, schedule := none } := by
  unfold Line.enterFailsafe
  cases h : l.isOutput
  · simp
  · simp only [↓reduceIte]
    congr 1

/-! ### The laws of a line -/

/-- The laws of a line, by its kind of mode. -/
theorem Line.lawful_iff (l : Line) :
    l.lawful ↔ (l.isOutput = true → l.claims.base = some (baseClaim l.config.base)) ∧
      (l.isOutput = false → l.claims = .empty) ∧ l.filter.isSome = l.isSensed ∧ l.glitches ≤ 255 := by
  unfold Line.lawful
  cases l.isOutput <;> simp

/-- Removing a claim other than BASE keeps a lawful line. -/
theorem Line.lawful_drop {l : Line} (h : l.lawful) {cls : ClaimClass} (hc : cls ≠ .base) :
    (l.drop cls).lawful := by
  obtain ⟨h1, h0, h2, h3⟩ := l.lawful_iff.mp h
  refine (Line.lawful_iff _).mpr ⟨fun ho => ?_, fun ho => ?_, h2, h3⟩
  · have hb := h1 ho
    cases cls <;> first | exact hb | exact absurd rfl hc
  · rw [Line.drop_claims, h0 ho]; cases cls <;> rfl

/-- Placing a claim other than BASE keeps a lawful line. -/
theorem Line.lawful_place {l : Line} (h : l.lawful) {cls : ClaimClass} (hc : cls ≠ .base) (c : Claim) :
    (l.place cls c).lawful := by
  unfold Line.place
  split
  · rename_i ho
    obtain ⟨h1, -, h2, h3⟩ := l.lawful_iff.mp h
    refine (Line.lawful_iff _).mpr ⟨fun _ => ?_, fun hf => ?_, h2, h3⟩
    · have hb := h1 ho
      cases cls <;> first | exact hb | exact absurd rfl hc
    · exact absurd (ho.symm.trans hf) (by simp)
  · exact h

/-- A target of class TRIGGER or SCHEDULE keeps a lawful line. -/
theorem Line.lawful_applyTarget {l : Line} (h : l.lawful) {cls : ClaimClass} (hc : cls ≠ .base)
    (o : Origin) (e : Option Nat) (v : TargetValue) : (l.applyTarget cls o e v).lawful := by
  cases v with
  | low => exact Line.lawful_place h hc _
  | high => exact Line.lawful_place h hc _
  | toggle => exact Line.lawful_place h hc _
  | release => exact Line.lawful_drop h hc

/-- Configuration keeps a lawful line. -/
theorem Line.lawful_configure {l : Line} (h : l.lawful) (c : LineConfig) : (l.configure c).lawful := by
  obtain ⟨⟨m, b, k, j, p⟩, claims, refs, f, g, x⟩ := l
  obtain ⟨m', b', k', j', p'⟩ := c
  obtain ⟨h1, h2, h3⟩ := h
  refine ⟨?_, ?_, ?_⟩
  · cases m <;> cases m' <;> first | rfl | exact h1
  · cases m <;> cases m' <;> first | rfl | exact h2
  · cases m <;> cases m' <;> first | exact h3 | exact Nat.zero_le _

/-- Failsafe entry keeps a lawful line. -/
theorem Line.lawful_enterFailsafe {l : Line} (h : l.lawful) : l.enterFailsafe.lawful := by
  obtain ⟨h1, h0, h2, h3⟩ := l.lawful_iff.mp h
  refine (Line.lawful_iff _).mpr ⟨fun ho => ?_, fun ho => ?_, h2, h3⟩
  · have hb := h1 ho
    rw [Line.enterFailsafe_claims]; exact hb
  · have he := h0 ho
    rw [Line.enterFailsafe_claims, show l.isOutput = false from ho, he]; rfl

/-! ### The lines of the part -/

/-- The targets of one application, as the statements say it (R9). -/
theorem State.applyTargets_eq (s : State) (cls : ClaimClass) (o : Origin) (hold : Option Nat)
    (ts : List Target) :
    s.applyTargets cls o (hold.map (s.now + ·)) ts = s.targeted cls o hold ts := by
  have hl : (Vector.ofFn fun i : LineNo =>
        match ts.find? (fun t => decide (t.line = i)) with
        | some t => s.lines[i].applyTarget cls o (hold.map (s.now + ·)) t.value
        | none => s.lines[i]) =
      (s.targeted cls o hold ts).lines := by
    simp only [Line.applyTarget_eq]; rfl
  exact congrArg (fun ls => { s with lines := ls }) hl

/-- Every line change that keeps a lawful line keeps the lines lawful. -/
theorem State.linesLawful_mapLines {s : State} (h : s.linesLawful) {f : LineNo → Line → Line}
    (hf : ∀ i l, l.lawful → (f i l).lawful) : (s.mapLines f).linesLawful := by
  intro i
  rw [State.mapLines_line]
  exact hf i _ (h i)

/-- The same for one line. -/
theorem State.linesLawful_updateLine {s : State} (h : s.linesLawful) (i : LineNo) {f : Line → Line}
    (hf : ∀ l, l.lawful → (f l).lawful) : (s.updateLine i f).linesLawful := by
  intro j
  rw [State.updateLine_line]
  split
  · exact hf _ (h j)
  · exact h j

/-- An application of class TRIGGER or SCHEDULE keeps the lines lawful. -/
theorem State.linesLawful_applyTargets {s : State} (h : s.linesLawful) {cls : ClaimClass}
    (hc : cls ≠ .base) (o : Origin) (e : Option Nat) (ts : List Target) :
    (s.applyTargets cls o e ts).linesLawful :=
  State.linesLawful_mapLines h fun i l hl => by
    split
    · exact Line.lawful_applyTarget hl hc _ _ _
    · exact hl

/-- References keep the lines lawful. -/
theorem State.linesLawful_dropRefs {s : State} (h : s.linesLawful) (names : LineNo → Bool) :
    (s.dropRefs names).linesLawful :=
  State.linesLawful_mapLines h fun i l hl => by split <;> exact hl

/-- The same for references added. -/
theorem State.linesLawful_addRefs {s : State} (h : s.linesLawful) (names : LineNo → Bool) :
    (s.addRefs names).linesLawful :=
  State.linesLawful_mapLines h fun i l hl => by split <;> exact hl

/-- Claims removed from every line keep the lines lawful. -/
theorem State.linesLawful_dropClaims {s : State} (h : s.linesLawful) {cls : ClaimClass}
    (hc : cls ≠ .base) (test : Claim → Bool) : (s.dropClaims cls test).linesLawful :=
  State.linesLawful_mapLines h fun i l hl => by
    split
    · exact Line.lawful_drop hl hc
    · exact hl

/-! ### Samples -/

/-- A line that has had its sample of this device time takes no other (R30): the circuit alone changes. -/
theorem State.sampleLine_sampled {s : State} {i : LineNo} {f : Filter} (h : s.lines[i].filter = some f)
    (hf : f.sampled = true) (circuit : Outside) :
    s.sampleLine i circuit = s.updateLine i ({ · with circuit := circuit }) := by
  unfold State.sampleLine
  simp only [State.updateLine_line, if_true, h, hf]

/-- A line that is not sensed is not sampled. -/
theorem State.sampleLine_unsensed {s : State} {i : LineNo} (h : s.lines[i].filter = none)
    (circuit : Outside) : s.sampleLine i circuit = s.updateLine i ({ · with circuit := circuit }) := by
  unfold State.sampleLine
  simp only [State.updateLine_line, if_true, h]

/-- SAFE_N has one sample at each device time (R142). -/
theorem SafeFilter.sample_sampled {f : SafeFilter} (h : f.sampled = true) (level : Level) (now : Nat) :
    f.sample level now = f := by
  simp [SafeFilter.sample, h]

end Sys2Proof.Machine
end

