-- ==== Sys2Proof/Laws/Serve.lean ====
section
/-! SUPPORT. What serving a request does when the link can take it at once: the one lemma per outcome
(refused, duplicate, taken) that statements about requests rest on. -/

namespace Sys2Proof.Machine

variable {s t : State} {f : Frame} {own : List Byte → State → Answer}

/-- The renewal of the lease, as the statements say it (R136). -/
theorem State.renewLease_renewedAt (s : State) :
    s.renewLease = { s with session := s.session.renewedAt s.now } := by
  unfold State.renewLease Session.renewedAt
  cases h : s.session.state with
  | active => simp [Session.startLease, h]
  | noSession => rfl
  | failsafe => rfl

@[simp] theorem Session.renewedAt_state (m : Session) (now : Nat) : (m.renewedAt now).state = m.state := by
  unfold Session.renewedAt; split <;> rfl
@[simp] theorem Session.renewedAt_number (m : Session) (now : Nat) : (m.renewedAt now).number = m.number := by
  unfold Session.renewedAt; split <;> rfl
@[simp] theorem Session.renewedAt_lease (m : Session) (now : Nat) : (m.renewedAt now).lease = m.lease := by
  unfold Session.renewedAt; split <;> rfl
@[simp] theorem Session.renewedAt_record (m : Session) (now : Nat) : (m.renewedAt now).record = m.record := by
  unfold Session.renewedAt; split <;> rfl
@[simp] theorem Session.renewedAt_safeN (m : Session) (now : Nat) : (m.renewedAt now).safeN = m.safeN := by
  unfold Session.renewedAt; split <;> rfl

/-- Outside ACTIVE a renewal changes nothing (R136). -/
theorem Session.renewedAt_inactive (m : Session) (now : Nat) (h : m.state ≠ .active) :
    m.renewedAt now = m := by simp [Session.renewedAt, h]

/-- A request that can be taken, with no request being answered, is taken in the state in which it has been
received, whatever TXD carries. -/
theorem State.serve_takes (hq : s.takes f) (ha : s.link.answering = false) (hk : f.kind ≠ ackKind) :
    s.serve f own = ((s.received f).takeFrame f own).arbitrate := by
  obtain ⟨hh, hb, hbr, hw, hr⟩ := hq
  have hs : f.size ≤ 512 := by unfold Frame.size; omega
  by_cases hf : s.link.waiting.head? = some f
  · obtain ⟨rest, hrest⟩ : ∃ rest, s.link.waiting = f :: rest := by
      cases hl : s.link.waiting with
      | nil => simp [hl] at hf
      | cons x xs => simp [hl] at hf; exact ⟨xs, by rw [hf]⟩
    simp [State.serve, State.event, hh, State.present, hrest, ha, State.popWaiting, State.received]
  · have ⟨hw, hd⟩ : s.link.waiting = [] ∧ s.link.deafUntil ≤ s.now := by tauto
    have hp : s.present f =
        { s with
          session := s.session.renewedAt s.now
          link := { s.link with framer := .hunting, rxd := .high s.now, waiting := [f] } } := by
      unfold State.present State.canArrive State.frameArrives
      rw [State.renewLease_renewedAt]
      simp [hw, hb, Link.hears, hbr, hd, hs, hk]
    have ha' : ({ s.link with framer := .hunting, rxd := .high s.now, waiting := [f] } : Link).answering = false := ha
    simp [State.serve, State.event, hh, hp, ha', State.popWaiting, State.received, hw]

/-- On a link that is free for it no request is being answered. -/
theorem State.answering_free (hq : s.free f) : s.link.answering = false := by
  simp [Link.answering, hq.1.2.2.2.2, hq.2.1]

/-- A request taken at once is taken in the state in which it has been received. -/
theorem State.serve_free (hq : s.free f) (hk : f.kind ≠ ackKind) :
    s.serve f own = ((s.received f).takeFrame f own).arbitrate :=
  State.serve_takes hq.1 (State.answering_free hq) hk

/-- What a request that is taken at once leaves of the state. -/
theorem State.received_frame (s : State) (f : Frame) :
    { s.received f with session := s.session, link := s.link } = s := by
  unfold State.received; split <;> rfl

@[simp] theorem State.received_pending (s : State) (f : Frame) :
    (s.received f).pending = s.pending := by unfold State.received; split <;> rfl
@[simp] theorem State.received_pins (s : State) (f : Frame) :
    (s.received f).pins = s.pins := by unfold State.received; split <;> rfl
@[simp] theorem State.received_resetCause (s : State) (f : Frame) :
    (s.received f).resetCause = s.resetCause := by unfold State.received; split <;> rfl
@[simp] theorem State.received_now (s : State) (f : Frame) :
    (s.received f).now = s.now := by unfold State.received; split <;> rfl
@[simp] theorem State.received_settleTimes (s : State) (f : Frame) :
    (s.received f).settleTimes = s.settleTimes := by unfold State.received; split <;> rfl
@[simp] theorem State.received_lines (s : State) (f : Frame) :
    (s.received f).lines = s.lines := by unfold State.received; split <;> rfl
@[simp] theorem State.received_journal (s : State) (f : Frame) :
    (s.received f).journal = s.journal := by unfold State.received; split <;> rfl
@[simp] theorem State.received_schedule (s : State) (f : Frame) :
    (s.received f).schedule = s.schedule := by unfold State.received; split <;> rfl
@[simp] theorem State.received_slots (s : State) (f : Frame) :
    (s.received f).slots = s.slots := by unfold State.received; split <;> rfl
@[simp] theorem State.received_store (s : State) (f : Frame) :
    (s.received f).store = s.store := by unfold State.received; split <;> rfl
@[simp] theorem State.received_freeIx (s : State) (f : Frame) :
    (s.received f).freeIx = s.freeIx := by unfold State.received; split <;> rfl
@[simp] theorem State.received_state (s : State) (f : Frame) :
    (s.received f).session.state = s.session.state := by
  unfold State.received; split <;> simp
@[simp] theorem State.received_number (s : State) (f : Frame) :
    (s.received f).session.number = s.session.number := by
  unfold State.received; split <;> simp
@[simp] theorem State.received_lease (s : State) (f : Frame) :
    (s.received f).session.lease = s.session.lease := by
  unfold State.received; split <;> simp
@[simp] theorem State.received_record (s : State) (f : Frame) :
    (s.received f).session.record = s.session.record := by
  unfold State.received; split <;> simp
@[simp] theorem State.received_safeN (s : State) (f : Frame) :
    (s.received f).session.safeN = s.session.safeN := by
  unfold State.received; split <;> simp
@[simp] theorem State.received_cached (s : State) (f g : Frame) :
    (s.received f).link.cached g = s.link.cached g := by
  unfold State.received; split <;> rfl
@[simp] theorem State.received_tx (s : State) (f : Frame) :
    (s.received f).link.tx = s.link.tx := by unfold State.received; split <;> rfl
@[simp] theorem State.received_reply (s : State) (f : Frame) :
    (s.received f).link.reply = s.link.reply := by unfold State.received; split <;> rfl
@[simp] theorem State.received_inFlight (s : State) (f : Frame) :
    (s.received f).link.inFlight = s.link.inFlight := by unfold State.received; split <;> rfl
@[simp] theorem State.received_notices (s : State) (f : Frame) :
    (s.received f).link.notices = s.link.notices := by unfold State.received; split <;> rfl
@[simp] theorem State.received_starting (s : State) (f : Frame) :
    (s.received f).starting = s.starting := by simp [State.starting]

/-- Outside ACTIVE a request that is taken leaves the session as it is. -/
theorem State.received_session (f : Frame) (h : s.session.state ≠ .active) :
    (s.received f).session = s.session := by
  unfold State.received; split
  · rfl
  · exact s.session.renewedAt_inactive s.now h

/-- A reply made ready on an idle link without a due notice starts at once (R181). -/
theorem State.arbitrate_withReply (s : State) (r : Frame) (htx : s.link.tx = .idle)
    (hd : s.link.inFlight.due = false) :
    (s.withReply r).arbitrate =
      { s with link := { s.link with tx := .reply r s.now, reply := none, lastSent := .reply } } := by
  simp [State.arbitrate, State.withReply, Link.arbitrate, Link.readyNotice, Link.startReply, htx, hd]

/-! ### The outcomes of serving a request -/

/-- A duplicate on a free link: the cached reply is sent again, and nothing else changes but the renewed
lease (R180). -/
theorem State.serve_duplicate (hq : s.free f) (hk : f.kind ≠ ackKind) {r : Frame}
    (hc : s.link.cached f = some r) : s.serve f own = s.replying f r := by
  rw [State.serve_free hq hk]
  obtain ⟨⟨-, -, -, -, hr⟩, htx, hd⟩ := hq
  have hc' : (s.received f).link.cached f = some r := by simpa using hc
  simp only [State.takeFrame, hc']
  rw [State.arbitrate_withReply _ _ (by simpa using htx) (by simpa using hd)]
  simp [State.replying, hr]

/-- A request that is refused by the gate, on a quiet link: the status alone is sent, and nothing else
changes but the renewed lease (R179). -/
theorem State.serve_gated (hq : s.quiet f) (hk : f.kind ≠ ackKind) {st : Status}
    (hg : gate f (s.received f) = some st) : s.serve f own = s.refusing f st.code [] := by
  obtain ⟨hq, hc⟩ := hq
  rw [State.serve_free hq hk]
  obtain ⟨⟨-, -, -, -, hr⟩, htx, hd⟩ := hq
  have hc' : (s.received f).link.cached f = none := by simpa using hc
  simp only [State.takeFrame, hc', hg]
  rw [State.arbitrate_withReply _ _ (by simpa using htx) (by simpa using hd)]
  simp [State.refusing, State.replying, replyTo, hr]

/-- A request that its owning block refuses, on a quiet link. -/
theorem State.serve_refused (hq : s.quiet f) (hk : f.kind ≠ ackKind)
    (hg : gate f (s.received f) = none) {st : Status} {addition : List Byte}
    (ho : own f.body (s.received f) = .refuse st addition) :
    s.serve f own = s.refusing f st.code addition := by
  obtain ⟨hq, hc⟩ := hq
  rw [State.serve_free hq hk]
  obtain ⟨⟨-, -, -, -, hr⟩, htx, hd⟩ := hq
  have hc' : (s.received f).link.cached f = none := by simpa using hc
  simp only [State.takeFrame, hc', hg, ho]
  rw [State.arbitrate_withReply _ _ (by simpa using htx) (by simpa using hd)]
  simp [State.refusing, State.replying, replyTo, hr]

/-- A request that is taken, on a quiet link: the state that its owning block leaves, with the reply in
the cache and ready, and then the transmitter's choice. -/
theorem State.serve_taken (hq : s.quiet f) (hk : f.kind ≠ ackKind)
    (hg : gate f (s.received f) = none) {st : Status} {content : List Byte}
    (ho : own f.body (s.received f) = .done st content t) :
    s.serve f own =
      ((t.withCache f (replyTo f st content)).withReply (replyTo f st content)).arbitrate := by
  obtain ⟨hq, hc⟩ := hq
  rw [State.serve_free hq hk]
  have hc' : (s.received f).link.cached f = none := by simpa using hc
  simp only [State.takeFrame, hc', hg, ho]

/-- A request that is taken, on a quiet link, by a block that leaves the link alone: its reply starts at
once. -/
theorem State.serve_done (hq : s.quiet f) (hk : f.kind ≠ ackKind)
    (hg : gate f (s.received f) = none) {st : Status} {content : List Byte}
    (ho : own f.body (s.received f) = .done st content t)
    (hl : t.link = (s.received f).link) (hn : t.now = s.now) :
    s.serve f own = { t with link := (s.serving f st.code content).link } := by
  rw [State.serve_taken hq hk hg ho]
  obtain ⟨⟨⟨-, -, -, -, hr⟩, htx, hd⟩, -⟩ := hq
  rw [State.arbitrate_withReply _ _ (by simpa [hl] using htx) (by simpa [hl] using hd)]
  simp [State.serving, Link.sending, State.withCache, replyTo, hl, hn, hr]

/-! ### The gate -/

/-- Checks 1 to 5 of R179 on a request that has arrived, by the state before it arrived. -/
theorem gate_received (f : Frame) (s : State) : gate f (s.received f) = gate f s := by
  simp [gate]

/-- Checks 1 to 5 of R179 passed. -/
theorem gate_passed (hs : s.starting = false ∨ f.kind = 0x01)
    (hk : requestKinds.contains f.kind = true) (hl : lengthFits f.kind f.body = true)
    (hg : sessionGate f.kind s.session.state = none)
    (ho : s.store.operation.isLoading = false ∨ refusedWhileLoading f = false) :
    gate f (s.received f) = none := by
  rw [gate_received]
  unfold gate
  rcases hs with hs | hs <;> rcases ho with ho | ho <;> simp_all

/-- A request that passes checks 1 to 5 is one that the gate lets through on a quiet link. -/
theorem State.passes_gate {c : Instr} (h : s.passes c f) :
    s.quiet f ∧ f.kind ≠ ackKind ∧ gate f (s.received f) = none := by
  obtain ⟨hf, hk, hq, hs, hl, hr, ho⟩ := h
  refine ⟨hq, ?_, gate_passed hs ?_ hl ?_ ?_⟩ <;> clear hs hq
  · cases c <;> simp [Instr.isKnownRequest, Instr.frame?] at hk hf <;> subst hf <;> simp [ackKind]
  · cases c <;> simp [Instr.isKnownRequest, Instr.frame?] at hk hf <;> subst hf <;> rfl
  · clear ho
    cases c <;> simp [Instr.isKnownRequest, Instr.frame?] at hk hf <;> subst hf <;>
      generalize s.session.state = st at hr ⊢ <;> revert hr <;> cases st <;>
      simp [Instr.sessionRefusal, sessionGate, takenInEveryState]
  · refine ho.imp id fun hlo => ?_
    clear ho hr
    cases c <;> simp [Instr.isKnownRequest, Instr.frame?] at hk hf <;> subst hf <;>
      simp [Instr.refusedLoading] at hlo <;> simp [refusedWhileLoading]
    rename_i body
    match body, hl with
    | [b], _ => simpa [byteAt] using fun h => hlo (congrArg (· :: []) (BitVec.eq_of_toNat_eq h))

/-- A request that passes checks 1 to 5 and that its owning block refuses. -/
theorem State.serve_passes_refused {c : Instr} (h : s.passes c f) {st : Status}
    {addition : List Byte} (ho : own f.body (s.received f) = .refuse st addition) :
    s.serve f own = s.refusing f st.code addition :=
  have ⟨hq, hk, hg⟩ := State.passes_gate h
  State.serve_refused hq hk hg ho

/-- A request that passes checks 1 to 5 and that a block takes which leaves the link alone. -/
theorem State.serve_passes_done {c : Instr} (h : s.passes c f) {st : Status} {content : List Byte}
    (ho : own f.body (s.received f) = .done st content t) (hl : t.link = (s.received f).link)
    (hn : t.now = s.now) :
    s.serve f own = { t with link := (s.serving f st.code content).link } :=
  have ⟨hq, hk, hg⟩ := State.passes_gate h
  State.serve_done hq hk hg ho hl hn

/-- A request that passes checks 1 to 5 and that is answered without a change. -/
theorem State.serve_passes_read {c : Instr} (h : s.passes c f) {st : Status} {content : List Byte}
    (ho : own f.body (s.received f) = .done st content (s.received f)) :
    s.serve f own = s.serving f st.code content := by
  rw [State.serve_passes_done h ho rfl (by simp)]; rfl

end Sys2Proof.Machine
end

