-- ==== Sys2Proof/Laws/Link.lean ====
section
/-! SUPPORT. The transmitter's choice and the notice queue: what `arbitrate` and `enqueue` leave, once and for
all. -/

namespace Sys2Proof.Machine

variable {l : Link} {s : State}

/-- A transmitter with nothing to choose chooses nothing. -/
theorem Link.settled_arbitrate (h : l.settled) (now : Nat) : l.arbitrate now = l := by
  unfold Link.arbitrate
  cases htx : l.tx with
  | idle => simp [h htx]
  | reply _ _ => rfl
  | notice _ _ => rfl

/-- After a choice the transmitter has nothing left to choose. -/
theorem Link.arbitrate_settled (l : Link) (now : Nat) : (l.arbitrate now).settled := by
  intro h
  unfold Link.arbitrate at *
  cases htx : l.tx with
  | idle =>
    cases hr : l.reply with
    | none =>
      cases hn : l.readyNotice with
      | none => simp [hr, hn]
      | some n => simp [htx, hr, hn, Link.startNotice] at h
    | some r =>
      cases hn : l.readyNotice with
      | none => simp [htx, hr, hn, Link.startReply] at h
      | some n =>
        cases hs : l.lastSent <;> simp [htx, hr, hn, hs, Link.startReply, Link.startNotice] at h
  | reply _ _ => simp [htx] at h
  | notice _ _ => simp [htx] at h

/-- A settled part's event that changes nothing leaves the part as it is. -/
theorem State.arbitrate_settled (h : s.link.settled) : s.arbitrate = s := by
  unfold State.arbitrate; rw [Link.settled_arbitrate h]

/-- An event of a part that is not held: its effect, then the transmitter's choice. -/
theorem State.event_running (h : s.held = false) (f : State → State) :
    s.event f = (f s).arbitrate := by
  simp [State.event, h]

/-- An event of a part that is held in reset. -/
theorem State.event_held (h : s.held = true) (f : State → State) : s.event f = s := by
  simp [State.event, h]

/-- A transmitter is settled whatever the framer, the waiting frames, the cache and the counters are. -/
theorem Link.settled_congr {m : Link} (h : l.settled) (htx : m.tx = l.tx) (hr : m.reply = l.reply)
    (hn : m.readyNotice = l.readyNotice) : m.settled := by
  intro hi; rw [hr, hn]; exact h (htx ▸ hi)

/-! ### The receiver -/

@[simp] theorem Rate.charactersTime_one (r : Rate) : r.charactersTime 1 = r.deafTime := by
  cases r <;> rfl
@[simp] theorem Rate.characterSpan_eq (r : Rate) : r.characterSpan = r.faultSpan := by
  cases r <;> rfl

/-- What a character fault leaves: the framing error, the time before which nothing is received, and an RXD
that can have been low since the character's start bit (R176, R187). -/
theorem Link.characterFault_eq (l : Link) (now : Nat) :
    l.characterFault now = { l with
      framer := .hunting, framingErrors := min (l.framingErrors + 1) 65535
      deafUntil := now + l.rate.charactersTime 1
      rxd := .low (max l.rxd.lowFrom (now - l.rate.characterSpan)) } := by
  simp [Link.characterFault, Link.deafened, Link.framingError, bump16]

/-- What the end of a line break leaves (R187). -/
theorem Link.endBreak_eq (l : Link) (now : Nat) :
    l.endBreak now = { l with
      breakSince := none, rxd := .low now, deafUntil := now + l.rate.charactersTime 1
      inFlight := freshInFlight l.notices } := by
  obtain ⟨_, _, _, _, notices, _⟩ := l
  cases notices <;> rfl

/-- The receiver takes characters, in the words of the statements. -/
theorem State.hears_iff : s.link.hears s.now = true ↔ s.hearing := by
  simp [Link.hears]

/-- An event of the receiver changes the link alone, and nothing while the UART receives nothing. -/
theorem State.onRxd_eq (f : Link → Link) :
    s.onRxd f = { s with link := if s.link.hears s.now then f s.link else s.link } := by
  unfold State.onRxd; split <;> rfl

/-- A character is lost while the UART receives nothing. -/
theorem State.receive_deaf (h : ¬ s.hearing) (ch : Byte) : s.receive ch = s := by
  have hh : s.link.hears s.now = false := by simpa [← State.hears_iff] using h
  simp [State.receive, hh]

/-- A link whose next character comes a character time from now at the earliest hears none now. -/
theorem Link.deaf_now {l : Link} {now : Nat} (h : l.deafUntil = now + l.rate.charactersTime 1) :
    l.hears now = false := by
  have : l.rate.deafTime ≠ 0 := by cases l.rate <;> decide
  simp [Link.hears, h, this]

/-- A character fault takes the receiver's hearing away at the device time it comes. -/
theorem Link.characterFault_deaf (l : Link) (now : Nat) : (l.characterFault now).hears now = false :=
  Link.deaf_now rfl

/-- No character comes at the device time at which a line break ends (R187). -/
theorem Link.endBreak_deaf (l : Link) (now : Nat) : (l.endBreak now).hears now = false := by
  rw [Link.endBreak_eq]; exact Link.deaf_now rfl

/-- A character received leaves no line break possible until a character fault has come. -/
theorem Link.heard_no_break (l : Link) (now later : Nat) :
    (l.heard now).rxd.lowForBreak later = false := rfl

/-- After a line break has ended there is none for 2,000 µs. -/
theorem Link.endBreak_no_break (l : Link) {now later : Nat} (h : later < now + 2000) :
    (l.endBreak now).rxd.lowForBreak later = false := by
  rw [Link.endBreak_eq]; simp [Rxd.lowForBreak, h]

end Sys2Proof.Machine
end

