-- ==== Sys2Proof/Laws/PerInstr.lean ====
section
/-! SUPPORT. The laws that hold of every command as syntax, one lemma for each constructor of `Instr`. -/

namespace Sys2Proof.Laws.FrameRoundTrip

/-- A well-formed request command is the command that its own frame is (10.2). -/
def Statement (i : Instr) : Prop :=
  i.wellFormed = true → ∀ f, i.frame? = some f → Instr.ofFrame f = i

/-- A command that is no frame: there is nothing to show. -/
theorem of_event {i : Instr} (h : i.frame? = none) : Statement i :=
  fun _ _ hf => nomatch h.symm.trans hf

/-- A command whose frame is read back by computation. -/
theorem of_frame {i : Instr} {f : Frame} (h : i.frame? = some f) (hi : Instr.ofFrame f = i) :
    Statement i :=
  fun _ _ hf => Option.some.inj (h.symm.trans hf) ▸ hi

/-- A KIND that is no request kind is read as an unknown request. -/
theorem ofFrame_unknown : ∀ (q k : Byte) (b : List Byte), requestKinds.contains k = false →
    Instr.ofFrame ⟨q, k, b⟩ = .unknownRequest q k b := by
  intro q k b h
  unfold Instr.ofFrame
  split <;> first
    | rfl
    | (rename_i hk
       have hk' : k = BitVec.ofNat 8 k.toNat := by simp
       rw [show k.toNat = _ from hk] at hk'
       subst hk'
       exact absurd h (by decide))

theorem identify (a b) : Statement (.identify a b) := of_frame rfl rfl
theorem status (a b) : Statement (.status a b) := of_frame rfl rfl
theorem reset (a b) : Statement (.reset a b) := of_frame rfl rfl
theorem openSession (a b) : Statement (.openSession a b) := of_frame rfl rfl
theorem renew (a b) : Statement (.renew a b) := of_frame rfl rfl
theorem close (a b) : Statement (.close a b) := of_frame rfl rfl
theorem failsafeNow (a b) : Statement (.failsafeNow a b) := of_frame rfl rfl
theorem recover (a b) : Statement (.recover a b) := of_frame rfl rfl
theorem configureLines (a b) : Statement (.configureLines a b) := of_frame rfl rfl
theorem setBase (a b) : Statement (.setBase a b) := of_frame rfl rfl
theorem setFailsafe (a b) : Statement (.setFailsafe a b) := of_frame rfl rfl
theorem pinLines (a b) : Statement (.pinLines a b) := of_frame rfl rfl
theorem unpinLines (a b) : Statement (.unpinLines a b) := of_frame rfl rfl
theorem readLevels (a b) : Statement (.readLevels a b) := of_frame rfl rfl
theorem readLine (a b) : Statement (.readLine a b) := of_frame rfl rfl
theorem setFilterClasses (a b) : Statement (.setFilterClasses a b) := of_frame rfl rfl
theorem readJournal (a b) : Statement (.readJournal a b) := of_frame rfl rfl
theorem releaseJournal (a b) : Statement (.releaseJournal a b) := of_frame rfl rfl
theorem clearJournal (a b) : Statement (.clearJournal a b) := of_frame rfl rfl
theorem setJournal (a b) : Statement (.setJournal a b) := of_frame rfl rfl
theorem submitAction (a b) : Statement (.submitAction a b) := of_frame rfl rfl
theorem cancelAction (a b) : Statement (.cancelAction a b) := of_frame rfl rfl
theorem cancelGroup (a b) : Statement (.cancelGroup a b) := of_frame rfl rfl
theorem queryAction (a b) : Statement (.queryAction a b) := of_frame rfl rfl
theorem listSchedule (a b) : Statement (.listSchedule a b) := of_frame rfl rfl
theorem readOutcomes (a b) : Statement (.readOutcomes a b) := of_frame rfl rfl
theorem defineTrigger (a b) : Statement (.defineTrigger a b) := of_frame rfl rfl
theorem armTrigger (a b) : Statement (.armTrigger a b) := of_frame rfl rfl
theorem disarmTrigger (a b) : Statement (.disarmTrigger a b) := of_frame rfl rfl
theorem deleteTrigger (a b) : Statement (.deleteTrigger a b) := of_frame rfl rfl
theorem readTrigger (a b) : Statement (.readTrigger a b) := of_frame rfl rfl
theorem beginProfile (a b) : Statement (.beginProfile a b) := of_frame rfl rfl
theorem appendRecord (a b) : Statement (.appendRecord a b) := of_frame rfl rfl
theorem capture (a b) : Statement (.capture a b) := of_frame rfl rfl
theorem abandonProfile (a b) : Statement (.abandonProfile a b) := of_frame rfl rfl
theorem commitProfile (a b) : Statement (.commitProfile a b) := of_frame rfl rfl
theorem loadProfile (a b) : Statement (.loadProfile a b) := of_frame rfl rfl
theorem eraseProfile (a b) : Statement (.eraseProfile a b) := of_frame rfl rfl
theorem setBootSlot (a b) : Statement (.setBootSlot a b) := of_frame rfl rfl
theorem readProfile (a b) : Statement (.readProfile a b) := of_frame rfl rfl
theorem unknownRequest (a b c) : Statement (.unknownRequest a b c) := by
  intro h f hf
  cases hf
  refine ofFrame_unknown a b c ?_
  simp only [Instr.wellFormed, Bool.and_eq_true, Bool.not_eq_true'] at h
  exact h.1.2
theorem validFrameArrival (a b c) : Statement (.validFrameArrival a b c) := of_event rfl
theorem ack (a b) : Statement (.ack a b) := of_event rfl
theorem crcError : Statement (.crcError) := of_event rfl
theorem lenOutOfRange (a) : Statement (.lenOutOfRange a) := of_event rfl
theorem frameGapTimeout : Statement (.frameGapTimeout) := of_event rfl
theorem characterFault : Statement (.characterFault) := of_event rfl
theorem overrun (a) : Statement (.overrun a) := of_event rfl
theorem lineBreak : Statement (.lineBreak) := of_event rfl
theorem lineBreakEnd : Statement (.lineBreakEnd) := of_event rfl
theorem replyTransmissionEnd : Statement (.replyTransmissionEnd) := of_event rfl
theorem noticeTransmissionEnd : Statement (.noticeTransmissionEnd) := of_event rfl
theorem retransmissionTime : Statement (.retransmissionTime) := of_event rfl
theorem rawChange (a b) : Statement (.rawChange a b) := of_event rfl
theorem qualification (a) : Statement (.qualification a) := of_event rfl
theorem claimExpiry (a b) : Statement (.claimExpiry a b) := of_event rfl
theorem dueArrival : Statement (.dueArrival) := of_event rfl
theorem guardDeadline : Statement (.guardDeadline) := of_event rfl
theorem fireTime : Statement (.fireTime) := of_event rfl
theorem holdoffEnd (a) : Statement (.holdoffEnd a) := of_event rfl
theorem warningArrival : Statement (.warningArrival) := of_event rfl
theorem leaseExpiry : Statement (.leaseExpiry) := of_event rfl
theorem safeNChange (a) : Statement (.safeNChange a) := of_event rfl
theorem safeNQualification : Statement (.safeNQualification) := of_event rfl
theorem commitCompletion (a) : Statement (.commitCompletion a) := of_event rfl
theorem loadCompletion (a) : Statement (.loadCompletion a) := of_event rfl
theorem eraseFirstStepEnd : Statement (.eraseFirstStepEnd) := of_event rfl
theorem eraseCompletion : Statement (.eraseCompletion) := of_event rfl
theorem bootWriteCompletion (a) : Statement (.bootWriteCompletion a) := of_event rfl
theorem startupLoadCompletion (a) : Statement (.startupLoadCompletion a) := of_event rfl
theorem powerOn (a b) : Statement (.powerOn a b) := of_event rfl
theorem rstNAssert (a b) : Statement (.rstNAssert a b) := of_event rfl
theorem rstNRelease : Statement (.rstNRelease) := of_event rfl
theorem clockLimit : Statement (.clockLimit) := of_event rfl
theorem characterReceived (a) : Statement (.characterReceived a) := of_event rfl
theorem supplyBelowRange : Statement (.supplyBelowRange) := of_event rfl

end Sys2Proof.Laws.FrameRoundTrip
end

