-- ==== Sys2Proof/Laws/Schedule.lean ====
section
/-! SUPPORT. What the shared operations of the Action Scheduler do: one entry that leaves, a request to enqueue a
notice, and what a leaving with its dependents leaves as it was. -/

namespace Sys2Proof.Machine

/-- A request to enqueue a notice, as a change of the link alone (R182). -/
theorem State.enqueue_eq (s : State) (c : NoticeContent) :
    s.enqueue c =
      { s with link := if s.session.state = .noSession then s.link else s.link.enqueue c } := by
  unfold State.enqueue
  cases s.session.state <;> rfl

/-- References dropped, as a change of the lines alone (R10). -/
theorem State.dropRefs_eq (s : State) (names : LineNo → Bool) :
    s.dropRefs names = { s with lines := Vector.ofFn fun i =>
      { s.lines[i] with refs := s.lines[i].refs - if names i then 1 else 0 } } := by
  have hl : (Vector.ofFn fun i : LineNo =>
        if names i then { s.lines[i] with refs := s.lines[i].refs - 1 } else s.lines[i]) =
      Vector.ofFn fun i : LineNo =>
        { s.lines[i] with refs := s.lines[i].refs - if names i then 1 else 0 } := by
    congr 1; funext i; split <;> simp
  exact congrArg (fun ls => { s with lines := ls }) hl

/-- A leaving by itself (steps 1 to 4 of R76): the entry of the id is gone, its references are dropped, its record
is the newest, and its notice has been asked for when it wants one. -/
theorem State.leaveAlone_eq (s : State) (e : Entry) (o : EntryOutcome) :
    s.leaveAlone e o = s.left [(e, o)] := by
  have hf : s.schedule.entries.filter (fun x => decide (x.action.id ≠ e.action.id)) =
      s.schedule.entries.filter (fun x =>
        [(e, o)].all fun l => decide (l.1.action.id ≠ x.action.id)) := by
    congr 1; funext x
    simp only [List.all_cons, List.all_nil, Bool.and_true, ne_eq, eq_comm]
  have hr : o.reported = decide (o ≠ .aborted) := by cases o <;> rfl
  unfold State.leaveAlone State.left
  simp only [State.dropRefs_eq, State.enqueue_eq, Schedule.leave, hf, hr]
  have hc : ∀ i, List.countP (fun x : Entry × EntryOutcome => x.1.action.names i) [(e, o)] =
      if e.action.names i then 1 else 0 := by
    intro i; simp [List.countP_cons]
  simp only [hc]
  cases hn : e.action.notify && decide (o ≠ .aborted) with
  | true =>
    rw [if_pos rfl]
    simp only [List.filter_cons, hn, List.filter_nil]
    rfl
  | false =>
    rw [if_neg (by simp)]
    simp only [List.filter_cons, hn, List.filter_nil]
    simp only [Bool.false_eq_true, if_false, List.foldl_nil, ite_self]
    rfl

/-- A relation that a leaving by itself keeps, and that dependents made TIMED keep, is kept by a leaving with its
dependents. -/
theorem State.leaveTree_keeps (P : State → Prop)
    (ha : ∀ s e o, P s → P (s.leaveAlone e o))
    (hr : ∀ s id t, P s → P { s with schedule := s.schedule.releaseDependents id t }) :
    ∀ (depth : Nat) (s : State) (e : Entry) (o : EntryOutcome), P s → P (s.leaveTree depth e o) := by
  intro depth
  induction depth with
  | zero => intro s e o h; exact h
  | succ depth ih =>
    intro s e o h
    have fold : ∀ (ds : List Entry) (t : State) (id : Nat), P t →
        P (ds.foldl (fun s d => s.leaveTree depth d (.orphaned id)) t) := by
      intro ds
      induction ds with
      | nil => intro t id ht; exact ht
      | cons d ds ihd => intro t id ht; exact ihd _ _ (ih _ _ _ ht)
    have h' := ha s e o h
    cases o with
    | applied => exact hr _ _ _ h'
    | skipped => exact fold _ _ _ h'
    | expired => exact fold _ _ _ h'
    | cancelled c => exact fold _ _ _ h'
    | orphaned p => exact fold _ _ _ h'
    | aborted => exact fold _ _ _ h'

/-- The same for `State.leave`. -/
theorem State.leave_keeps (P : State → Prop)
    (ha : ∀ s e o, P s → P (s.leaveAlone e o))
    (hr : ∀ s id t, P s → P { s with schedule := s.schedule.releaseDependents id t })
    (s : State) (e : Entry) (o : EntryOutcome) (h : P s) : P (s.leave e o) :=
  State.leaveTree_keeps P ha hr _ s e o h

/-- What a leaving with its dependents does not change: it changes the schedule, the lines and the link. -/
theorem State.leave_frame (s : State) (e : Entry) (o : EntryOutcome) :
    { s.leave e o with schedule := s.schedule, lines := s.lines, link := s.link } = s := by
  refine State.leave_keeps
    (fun t => { t with schedule := s.schedule, lines := s.lines, link := s.link } = s) ?_ ?_ s e o rfl
  · intro t e o h
    rw [State.leaveAlone_eq]
    dsimp only [State.left]
    exact h
  · intro t id time h
    exact h

/-- Of the lines a leaving with its dependents changes the reference counts alone. -/
theorem State.leave_line (s : State) (e : Entry) (o : EntryOutcome) (i : LineNo) :
    (s.leave e o).lines[i] = { s.lines[i] with refs := (s.leave e o).lines[i].refs } := by
  refine State.leave_keeps
    (fun t => t.lines[i] = { s.lines[i] with refs := t.lines[i].refs }) ?_ ?_ s e o rfl
  · intro t e o h
    have hl : (t.leaveAlone e o).lines[i] =
        { t.lines[i] with refs := (t.leaveAlone e o).lines[i].refs } := by
      rw [State.leaveAlone_eq]
      simp only [State.left, Fin.getElem_fin, Vector.getElem_ofFn]
    rw [hl]
    exact congrArg (fun l : Line => { l with refs := (t.leaveAlone e o).lines[i].refs }) h
  · intro t id time h
    exact h

/-- Every leaving keeps the lines lawful. -/
theorem State.linesLawful_leave {s : State} (h : s.linesLawful) (e : Entry) (o : EntryOutcome) :
    (s.leave e o).linesLawful := by
  intro i
  rw [State.leave_line s e o i]
  exact h i

/-- The outcome list never holds more than 16 records after a leaving (R78). -/
theorem appendOutcome_length (os : List OutcomeRecord) (r : OutcomeRecord) :
    (appendOutcome os r).length ≤ 16 := by
  simp only [appendOutcome, List.length_drop]; omega

end Sys2Proof.Machine
end

