-- ==== Sys2Proof/Laws/Session.lean ====
section
/-! SUPPORT. What the shared operations of the Session Monitor do: the lease, the whole schedule leaving, and a
failsafe entry. -/

namespace Sys2Proof.Machine

/-- Entries that leave one after another, none resolving a dependent, as the statements say it (R84, R85). -/
theorem State.foldl_leaveAlone (o : EntryOutcome) (es : List Entry) (s : State) :
    let t := es.foldl (fun s e => s.leaveAlone e o) s
    { t with schedule := s.schedule, lines := s.lines, link := s.link } = s ∧
      t.schedule.counter = s.schedule.counter ∧
      (∀ x, x ∈ t.schedule.entries ↔
        x ∈ s.schedule.entries ∧ ∀ e ∈ es, e.action.id ≠ x.action.id) ∧
      (∀ i : LineNo, t.lines[i] =
        { s.lines[i] with refs := s.lines[i].refs - es.countP (·.action.names i) }) ∧
      (es ≠ [] → t.schedule.outcomes.length ≤ 16) := by
  induction es generalizing s with
  | nil => exact ⟨rfl, rfl, by simp, by simp, fun h => absurd rfl h⟩
  | cons e es ih =>
    obtain ⟨h1, h2, h3, h4, h5⟩ := ih (s.leaveAlone e o)
    have hframe : { s.leaveAlone e o with schedule := s.schedule, lines := s.lines, link := s.link } =
        s := by
      rw [State.leaveAlone_eq]; dsimp only [State.left]
    have hcounter : (s.leaveAlone e o).schedule.counter = s.schedule.counter := by
      rw [State.leaveAlone_eq]; rfl
    have hentries : (s.leaveAlone e o).schedule.entries =
        s.schedule.entries.filter fun x => decide (e.action.id ≠ x.action.id) := by
      rw [State.leaveAlone_eq]; simp [State.left]
    have hline : ∀ i : LineNo, (s.leaveAlone e o).lines[i] =
        { s.lines[i] with refs := s.lines[i].refs - if e.action.names i then 1 else 0 } := by
      intro i; rw [State.leaveAlone_eq]
      simp [State.left, List.countP_cons]
    have hout : (s.leaveAlone e o).schedule.outcomes.length ≤ 16 := by
      rw [State.leaveAlone_eq]
      simp only [State.left, lastSixteen, List.length_drop]; omega
    refine ⟨?_, h2.trans hcounter, fun x => ?_, fun i => ?_, fun _ => ?_⟩
    · have := congrArg
        (fun u : State => { u with schedule := s.schedule, lines := s.lines, link := s.link }) h1
      exact this.trans hframe
    · rw [List.foldl_cons, h3 x, hentries]
      simp only [List.mem_filter, decide_eq_true_eq, List.forall_mem_cons]
      tauto
    · rw [List.foldl_cons, h4 i, hline i, List.countP_cons]
      simp only [Nat.sub_sub, Nat.add_comm]
    · rw [List.foldl_cons]
      cases es with
      | nil => exact hout
      | cons d ds => exact h5 (by simp)

/-- A failsafe entry leaves the session in FAILSAFE with this record, and the clock, the journal, the settle times,
the pins and the queue of commands as they were (R144). -/
theorem State.enterFailsafe_session (s : State) (c : FailsafeCause) :
    (s.enterFailsafe c).session = s.session.enterFailsafe c s.now := by
  have hfold := (State.foldl_leaveAlone .aborted
    (scheduleOrder (({ s with session := s.session.enterFailsafe c s.now }).mapLines
      fun _ l => l.enterFailsafe).schedule.entries)
    (({ s with session := s.session.enterFailsafe c s.now }).mapLines fun _ l => l.enterFailsafe)).1
  have hsession := congrArg State.session hfold
  have hann : ∀ t : State, (t.abortAndAnnounce c).session = t.session := by
    intro t
    simp only [State.abortAndAnnounce]
    split
    · split
      · simp only [State.announceFailsafe, State.enqueue_eq, State.abortLoad]
        split <;> simp [State.finishStore, State.enqueue_eq, State.drawn]
      · simp only [State.announceFailsafe, State.abortLoad, State.enqueue_eq]
        split <;> simp [State.finishStore, State.enqueue_eq, State.drawn]
    · simp [State.announceFailsafe, State.enqueue_eq]
  unfold State.enterFailsafe
  rw [hann]
  exact hsession

end Sys2Proof.Machine
end

