-- ==== Sys2Proof/Laws/Store.lean ====
section
/-! SUPPORT. What the shared operations of the Profile Store and the start-up reset do, in the terms of the
statements. -/

namespace Sys2Proof.Machine

/-- A start-up reset, as the statements say it (R189). -/
theorem State.startUpReset_eq (s : State) (c : ResetCause) :
    s.startUpReset c = s.atReset s.pins c := rfl

/-- The end of a store operation with the transmitter's choice, as the statements say it (R169). -/
theorem State.finishStore_arbitrate (s : State) (op : StoreOp) (slot : Option ProfileNo)
    (r : StoreResult) : (s.finishStore op slot r).arbitrate = s.storeDone op slot r := rfl

/-- The conditions of a copy after a copy has been set. -/
@[simp] theorem CopyPair.get_set {α : Type} (p : CopyPair α) (m n : CopyNo) (c : Copy α) :
    (p.set n c).get m = if m = n then c else p.get m := by
  cases m <;> cases n <;> rfl

/-- A copy of a profile slot written or erased, as the statements say it (R150). -/
theorem State.withStore_setCopy (s : State) (p : ProfileNo) (n : CopyNo)
    (c : Copy (List ProfileRecord)) :
    s.withStore { s.store with media := s.store.media.setCopy p n c } = s.withCopy p n c := by
  cases n <;> rfl

/-- A line under a whole profile, as the statements say it (R26, R129). -/
theorem Line.underProfile_eq (l : Line) (c : LineConfig) (old new : Nat) :
    l.underProfile c old new =
      { (l.configured c) with
        claims := { (l.configured c).claims with trigger := none }
        refs := l.refs - old + new } := by
  unfold Line.underProfile
  rw [Line.configure_eq]
  rfl

/-- A whole profile applied, as the statements say it (R164). -/
theorem State.applyProfile_eq (s : State) (rs : List ProfileRecord) :
    s.applyProfile rs = s.underProfile rs := by
  have hr : ∀ i, refsFrom (Vector.ofFn (profileSlot rs)) i = refsUnder rs i := by
    intro i; simp [refsFrom, refsUnder]
  have hl : (Vector.ofFn fun i : LineNo =>
        s.lines[i].underProfile ((profileConfig rs i).getD .factory) (refsFrom s.slots i)
          (refsFrom (Vector.ofFn (profileSlot rs)) i)) = (s.underProfile rs).lines := by
    simp only [hr, Line.underProfile_eq]; rfl
  exact congrArg (fun ls => { s.underProfile rs with lines := ls }) hl

end Sys2Proof.Machine
end

