-- ==== Sys2Proof/Laws/Time.lean ====
section
/-! SUPPORT. What the tests of the due events say: the request that a waiting frame is, the entries in schedule
order, the times of the schedule, the lease, the start-up load and the transmitter. -/

namespace Sys2Proof

/-- The command of a frame is that frame. -/
@[simp] theorem Instr.frame_ofFrame (f : Frame) : (Instr.ofFrame f).frame? = some f := by
  obtain ⟨q, k, b⟩ := f
  unfold Instr.ofFrame; simp only
  split <;> rename_i h <;> simp only [Instr.frame?] <;> congr 1 <;>
    (try (congr 1; exact (BitVec.eq_of_toNat_eq (by rw [h]; rfl))))

/-- A frame of a request kind is a request of one of the 40 kinds (10.2). -/
theorem Instr.ofFrame_known (q k : Byte) (b : List Byte) (h : k ∈ requestKinds) :
    (Instr.ofFrame ⟨q, k, b⟩).isKnownRequest = true := by
  simp only [requestKinds, List.mem_cons, List.not_mem_nil, or_false] at h
  casesm* _ ∨ _ <;> subst h <;> rfl

end Sys2Proof

namespace Sys2Proof.Machine

variable {s : State} {now : Nat}

@[simp] theorem mem_insertInOrder (e x : Entry) (l : List Entry) :
    x ∈ insertInOrder e l ↔ x = e ∨ x ∈ l := by
  induction l with
  | nil => simp [insertInOrder]
  | cons a l ih => unfold insertInOrder; split <;> simp [ih]; tauto

/-- Schedule order has the queued entries and no others (R71). -/
@[simp] theorem mem_scheduleOrder (es : List Entry) (x : Entry) : x ∈ scheduleOrder es ↔ x ∈ es := by
  unfold scheduleOrder
  induction es with
  | nil => simp
  | cons a l ih => simp [ih]

/-- Whether the due time of a TIMED entry has come (R72). -/
theorem Schedule.nextDue_isSome (c : Schedule) (now : Nat) : (c.nextDue now).isSome = true ↔
    ∃ x ∈ c.entries, ∃ due, x.state = .timed due ∧ due ≤ now := by
  unfold Schedule.nextDue
  rw [List.findSome?_isSome_iff]; simp only [mem_scheduleOrder]
  refine exists_congr fun x => and_congr_right fun _ => ?_
  cases h : x.state <;> simp [Entry.dueBy, h]

/-- Whether the guard deadline of an entry has come (R95). -/
theorem Schedule.nextDeadline_isSome (c : Schedule) (now : Nat) : (c.nextDeadline now).isSome = true ↔
    ∃ x ∈ c.entries, ∃ due deadline, x.state = .guardWait due deadline ∧ deadline ≤ now := by
  unfold Schedule.nextDeadline
  rw [List.find?_isSome]; simp only [mem_scheduleOrder]
  refine exists_congr fun x => and_congr_right fun _ => ?_
  cases h : x.state <;> simp [Entry.deadlineBy, h]

@[simp] theorem reached_iff (t : Option Nat) (now : Nat) : reached t now = true ↔ ∃ x ∈ t, x ≤ now := by
  cases t <;> simp [reached]

/-- Whether a slot is PENDING with a fire time that has come (R117). -/
theorem Slot.fireDueBy_iff (slot : Slot) (now : Nat) :
    slot.fireDueBy now = true ↔ ∃ time, slot.phase = .pending time ∧ time ≤ now := by
  cases h : slot.phase <;> simp [Slot.fireDueBy, h]

/-- Whether a frame's transmission ends now, in the words of the statements (R172; assumption 10). -/
theorem State.txOver_iff (f : Frame) (since : Nat) : s.txOver f since = true ↔ s.canEnd f since := by
  simp only [State.txOver, State.canEnd, Link.sentBy, Rate.charactersTime, Bool.and_eq_true,
    Bool.or_eq_true, or_assoc]
  exact ⟨fun ⟨a, b⟩ =>
      ⟨of_decide_eq_true a, b.imp of_decide_eq_true (·.imp of_decide_eq_true of_decide_eq_true)⟩,
    fun ⟨a, b⟩ => ⟨decide_eq_true a, b.imp decide_eq_true (·.imp decide_eq_true decide_eq_true)⟩⟩

/-- Whether no request is being answered (R179). -/
theorem Link.answering_eq_false (l : Link) :
    l.answering = false ↔ l.reply = none ∧ ∀ f since, l.tx ≠ .reply f since := by
  cases h : l.tx <;> cases h' : l.reply <;> simp [Link.answering, h, h']

end Sys2Proof.Machine
end

