-- ==== Sys2Proof/Laws/Triggers.lean ====
section
/-! SUPPORT. What the shared operations of the Trigger Unit and the Input Sensing Unit do: group cancels, firings,
offered edges and deliveries, each by what it keeps. -/

namespace Sys2Proof.Machine

/-- A relation kept by every leaving is kept by a group cancel (R82, R83). -/
theorem State.cancelGroup_keeps (P : State → Prop) (hl : ∀ s e o, P s → P (s.leave e o))
    (s : State) (group : Nat) (cause : CancelCause) (h : P s) : P (s.cancelGroup group cause).1 := by
  have fold : ∀ (ids : List Nat) (acc : State × List Nat), P acc.1 →
      P (ids.foldl (State.cancelQueued cause) acc).1 := by
    intro ids
    induction ids with
    | nil => intro acc ha; exact ha
    | cons id ids ih =>
      intro acc ha
      refine ih _ ?_
      unfold State.cancelQueued
      split
      · exact hl _ _ _ ha
      · exact ha
  exact fold _ (s, []) h

/-- A relation kept by every leaving, every notice request and every draw is kept by the group cancel and the notice
of a firing, in either order (R118). -/
theorem State.fireCancelAndNotice_keeps (P : State → Prop) (hl : ∀ s e o, P s → P (s.leave e o))
    (hn : ∀ s c, P s → P (s.enqueue c)) (hd : ∀ s, P s → P s.drawn)
    (s : State) (k : SlotNo) (d : TriggerDef) (n : Serial) (h : P s) :
    P (s.fireCancelAndNotice k d n) := by
  have hc : ∀ t, P t → P (t.fireCancel k d) := by
    intro t ht; unfold State.fireCancel
    split
    · exact ht
    · exact State.cancelGroup_keeps P hl t _ _ ht
  have hno : ∀ t, P t → P (t.fireNotice k d n) := by
    intro t ht; unfold State.fireNotice
    split
    · exact hn _ _ ht
    · exact ht
  unfold State.fireCancelAndNotice
  split
  · split
    · exact hno _ (hc _ (hd _ h))
    · exact hc _ (hno _ (hd _ h))
  · exact hno _ (hc _ h)

/-- A firing changes no slot but its own (R118). -/
theorem State.fire_other_slot (s : State) (k j : SlotNo) (h : j ≠ k) :
    (s.fire k).slots[j] = s.slots[j] := by
  unfold State.fire
  split
  · rfl
  · rename_i d _
    rw [State.setSlot_slot, if_neg (Ne.symm h)]
    refine State.fireCancelAndNotice_keeps (fun t => t.slots[j] = s.slots[j]) ?_ ?_ ?_ _ k d _ ?_
    · intro t e o ht
      have := congrArg (fun u : State => u.slots[j]) (State.leave_frame t e o)
      exact Eq.trans this ht
    · intro t c ht; rw [State.enqueue_eq]; exact ht
    · intro t ht; exact ht
    · simp only [State.applyTargets, State.mapLines_slots]

/-- The slot of a firing after it (R118, R119, R121). -/
theorem State.fire_own_slot (s : State) (k : SlotNo) (d : TriggerDef)
    (h : s.slots[k].definition = some d) : (s.fire k).slots[k] = s.slots[k].fired d.mode s.now := by
  unfold State.fire
  rw [h]
  simp only [State.setSlot_slot, if_true]
  have hk : ∀ t : State, t.now = s.now ∧ t.slots[k] = s.slots[k] →
      (t.fireCancelAndNotice k d (s.slots[k].firings + 1)).now = s.now ∧
        (t.fireCancelAndNotice k d (s.slots[k].firings + 1)).slots[k] = s.slots[k] := by
    intro t ht
    refine State.fireCancelAndNotice_keeps (fun t => t.now = s.now ∧ t.slots[k] = s.slots[k])
      ?_ ?_ ?_ t k d _ ht
    · intro t e o ht
      have h1 := congrArg State.now (State.leave_frame t e o)
      have h2 := congrArg (fun u : State => u.slots[k]) (State.leave_frame t e o)
      exact ⟨Eq.trans h1 ht.1, Eq.trans h2 ht.2⟩
    · intro t c ht; rw [State.enqueue_eq]; exact ht
    · intro t ht; exact ht
  obtain ⟨h1, h2⟩ := hk (s.applyTargets .trigger (.slot k) (d.hold.map (s.now + ·)) d.targets)
    (by simp only [State.applyTargets, State.mapLines_now, State.mapLines_slots, and_self])
  rw [h1, h2]
  unfold Slot.fired
  cases d.mode <;> rfl

/-- A relation kept by each receiver of an edge and by every draw is kept by its delivery, in any order (R37). -/
theorem State.deliver_keeps (P : State → Prop) (e : Edge)
    (hj : ∀ s, P s → P (s.takeJournalEdge e)) (ht : ∀ s, P s → P (s.takeTriggerEdge e))
    (hg : ∀ s, P s → P (s.takeGuardEdge e)) (hd : ∀ s, P s → P s.drawn)
    (s : State) (h : P s) : P (s.deliver e) := by
  have ho : ∀ n t, P t → P (t.deliverInOrder e n) := by
    intro n t h
    unfold State.deliverInOrder
    split
    · exact hg _ (ht _ (hj _ h))
    · exact ht _ (hg _ (hj _ h))
    · exact hg _ (hj _ (ht _ h))
    · exact hj _ (hg _ (ht _ h))
    · exact ht _ (hj _ (hg _ h))
    · exact hj _ (ht _ (hg _ h))
  unfold State.deliver
  split
  · exact ho _ _ (hd _ h)
  · exact ho _ _ h

/-- A relation kept by each slot's taking of an edge is kept by the TU's (R113). -/
theorem State.takeTriggerEdge_keeps (P : State → Prop) (e : Edge)
    (h1 : ∀ s k, P s → P (State.offerEdge e s k)) (s : State) (h : P s) :
    P (s.takeTriggerEdge e) := by
  have fold : ∀ (ks : List SlotNo) (t : State), P t → P (ks.foldl (State.offerEdge e) t) := by
    intro ks
    induction ks with
    | nil => intro t ht; exact ht
    | cons k ks ih => intro t ht; exact ih _ (h1 _ _ ht)
  exact fold _ _ h

/-- A relation kept by each waiting entry's application is kept by the AS's taking of an edge (R94). -/
theorem State.takeGuardEdge_keeps (P : State → Prop) (e : Edge)
    (h1 : ∀ s id, P s → P (State.applyWaiting s id)) (s : State) (h : P s) :
    P (s.takeGuardEdge e) := by
  have fold : ∀ (ids : List Nat) (t : State), P t → P (ids.foldl State.applyWaiting t) := by
    intro ids
    induction ids with
    | nil => intro t ht; exact ht
    | cons id ids ih => intro t ht; exact ih _ (h1 _ _ ht)
  exact fold _ _ h

end Sys2Proof.Machine
end

