-- ==== Sys2Proof/Tests/Slice0.lean ====
section
/-! SUPPORT. Tests: small states; one ill-formed command for each check of `Instr.wellFormed`; single steps
with the results that the spec's worked examples and tables give; and, for each statement with hypotheses, a
state and operands that meet those of each of its clauses. -/

namespace Sys2Proof.Tests
open Sys2Proof Sys2Proof.Machine

/-! ### Small states -/

/-- The state a command leaves. -/
def after (c : Instr) (s : State) : State :=
  match exec c s with
  | .next t => t
  | .fault _ | .refused _ => s

/-- The body of the reply that TXD carries. -/
def replied (s : State) : List Byte :=
  match s.link.tx with
  | .reply f _ => f.body
  | .idle | .notice _ _ => []

/-- The clock has advanced to this time: its samples have not been taken. -/
def at_ (t : Nat) (s : State) : State := { (s.mapLines fun _ l => l.latch).latchSafeN with now := t }

/-- The start-up load is over, with no boot slot. -/
def ready : State :=
  { State.reset with now := 100000, store := { State.reset.store with bootResult := .none } }

/-- Session 4 is open with a lease of 200 ms. -/
def active : State :=
  { ready with session := ⟨.active, 4, 200, some 240000, some 190000, none, ⟨.high, false, none, false⟩⟩ }

/-- The part has failed safe for its lease. -/
def failed : State :=
  { active with session :=
      ⟨.failsafe, 4, 200, none, none, some ⟨.lease, 90000, true, false, false⟩, ⟨.high, false, none, false⟩⟩ }

/-- A line configured from reset. -/
def line (m : Mode) (base : Level) (cls : Fin 4) (spec : FailsafeSpec) : Line :=
  (Line.afterReset .holdsLow).configure ⟨m, base, cls, .both, spec⟩

/-- L02 and L05 are inputs of classes 3 and 1, L22 is in SINK, L24, L25 and L26 are in DRIVE. -/
def lined : State :=
  at_ 100000 { active with lines :=
      (((((active.lines.set 2 (line .input .low 3 .base)).set 5 (line .input .low 1 .base)).set 22
        (line .sink .high 0 .base)).set 24 (line .drive .low 0 .hold)).set 25
        (line .drive .low 0 .low)).set 26 (line .drive .low 0 .base) }

/-- An action without its optional parts. -/
def action (id group : Nat) (notify : Bool) (targets : List Target) : Action :=
  ⟨id, notify, group, targets, none, none, none, none⟩

/-- The schedule of 4.9: ids 5, 6 and 7, as admitted. -/
def queued : State :=
  (({ lined with schedule := ⟨[
      ⟨action 5 2 true [⟨24, .high⟩], 0, .timed 200000, 0, 0, none⟩,
      ⟨action 6 2 false [⟨24, .low⟩, ⟨25, .high⟩], 1, .timed 200000, 0, 0, none⟩,
      ⟨{ action 7 0 true [⟨26, .high⟩] with hold := some 20000 }, 2, .timed 150000, 0, 0, none⟩],
      3, []⟩ }).addRefs (fun i => decide (i = 24))).addRefs fun i => decide (24 ≤ i ∧ i ≤ 26)

/-- One entry, of id 9, in this state with these parts. -/
def single (st : EntryState) (guard : Option Guard) (rep : Option Repeat) : State :=
  ({ lined with schedule := ⟨[⟨{ action 9 1 true [⟨24, .toggle⟩] with guard := guard, rep := rep },
      0, st, 0, 0, none⟩], 1, []⟩ }).addRefs fun i => decide (i = 24)

/-- A definition like that of 6.8, on the lines of `lined`. -/
def quiet (delay : Nat) (policy : PendingPolicy) : TriggerDef :=
  ⟨5, .rise, some ⟨2, .low⟩, delay, policy, .rearm 500000, [⟨24, .high⟩, ⟨25, .low⟩], none, 3, true⟩

/-- T4 holds this definition in this phase. -/
def slotted (d : TriggerDef) (p : Phase) : State :=
  ({ lined with slots := lined.slots.set 4 ⟨some d, p, 0, 0, 0⟩ }).addRefs d.names

/-- Profile slot 2 holds these copies. -/
def mediaWith (copy0 copy1 : Copy (List ProfileRecord)) (s : State) : State :=
  { s with store := { s.store with
      media := { s.store.media with slots := s.store.media.slots.set 2 ⟨copy0, copy1⟩ } } }

/-- An operation is in flight. -/
def operating (o : Operation) (s : State) : State := { s with store := { s.store with operation := o } }

/-- A list of records is staged for slot 2. -/
def staged (rs : List ProfileRecord) : State :=
  { active with store := { active.store with staging := .staging 2 rs } }

/-- A profile of one record. -/
def profile : List ProfileRecord := [.journal 64]

/-- A notice queue, with its oldest notice in flight so. -/
def noticed (ns : List Notice) (f : InFlight) (tx : Tx) : State :=
  { active with link := { active.link with notices := ns, inFlight := f, tx := tx } }

/-- Notice 7, a lease warning. -/
def notice7 : Notice := ⟨7, false, .leaseWarning 50⟩

/-- The link changed. -/
def linked (f : Link → Link) (s : State) : State := { s with link := f s.link }


/-- A journal of these records, the last of them numbered 256. -/
def journalOf (rs : List JournalRecord) : State :=
  { lined with journal := ⟨rs, 257, 64, false⟩ }

/-- 254 edges and an open gap of these lost edges, or 255 edges. -/
def edgeRecords (n : Nat) : List JournalRecord :=
  (List.range n).map fun k => .edge (BitVec.ofNat 32 (k + 1)) 5 .rise (k + 10) 0

/-- Frames that fill the receive buffer. -/
def fullBuffer : List Frame :=
  [⟨1, 2, List.replicate 248 0⟩, ⟨1, 2, List.replicate 246 0⟩, ⟨1, 2, []⟩]

/-! ### WellFormed -/

theorem test_wellFormed_open : Instr.wellFormed (.openSession 1 [200, 0]) = true := by decide
set_option maxRecDepth 4000 in
theorem test_illFormed_body : Instr.wellFormed (.pinLines 1 (List.replicate 249 0)) = false := by decide
set_option maxRecDepth 4000 in
theorem test_illFormed_unknown_body :
    Instr.wellFormed (.unknownRequest 1 0x7F (List.replicate 249 0)) = false := by decide
theorem test_illFormed_unknown_known : Instr.wellFormed (.unknownRequest 1 0x30 []) = false := by decide
theorem test_illFormed_unknown_ack : Instr.wellFormed (.unknownRequest 1 0x70 [3]) = false := by decide
set_option maxRecDepth 4000 in
theorem test_illFormed_arrival :
    Instr.wellFormed (.validFrameArrival 1 0x30 (List.replicate 249 0)) = false := by decide
set_option maxRecDepth 4000 in
theorem test_illFormed_ack : Instr.wellFormed (.ack 1 (List.replicate 249 0)) = false := by decide
theorem test_illFormed_len : Instr.wellFormed (.lenOutOfRange 250) = false := by decide
theorem test_illFormed_failsafe_expiry : Instr.wellFormed (.claimExpiry 3 .failsafe) = false := by decide
theorem test_illFormed_base_expiry : Instr.wellFormed (.claimExpiry 3 .base) = false := by decide
theorem test_no_bits : decodeTableWord 8 0x30 = none := by decide

/-! ### Session (7.9), frames (R174) and notices (9.10) -/

set_option maxRecDepth 4000 in
/-- R174's own check value. -/
theorem test_crc :
    crc [0x31, 0x32, 0x33, 0x34, 0x35, 0x36, 0x37, 0x38, 0x39] = 0x29B1 := by decide
/-- R188: the model number, revision and counts, cause POWER, boot result NONE, boot slot NONE, no label. -/
theorem test_identify :
    (replied (after (.identify 1 []) ready)).take 10 =
      [0, 0x71, 0x3B, 0x28, 0x04, 1, 0, 2, 0xFF, 0] := by decide
/-- 7.9: the STATUS frame's arrival has renewed the lease, so 200,000 µs are left. -/
theorem test_status :
    ((replied (after (.status 1 []) active)).drop 6).take 4 = leBytes 4 200000 := by decide
theorem test_open :
    (after (.openSession 1 [200, 0]) (at_ 10000 ready)).session =
      ⟨.active, 1, 200, some 210000, some 160000, none, ⟨.high, false, none, false⟩⟩ := by decide
theorem test_renew :
    (after (.renew 1 [1, 100, 0]) active).session.deadline = some 200000 := by decide
theorem test_close :
    (after (.close 1 [1]) queued).schedule.outcomes.map (·.id) = [7, 5, 6] := by decide
theorem test_failsafeNow :
    (after (.failsafeNow 1 []) active).session.record =
      some ⟨.request, 100000, false, true, false⟩ := by decide
/-- 7.9: SAFE_ASSERTED while SAFE_N is asserted. -/
theorem test_recover_refused :
    replied (after (.recover 1 [200, 0])
      { failed with session := { failed.session with safeN := ⟨.low, true, none, false⟩ } }) = [0x23] := by decide
theorem test_recover :
    (after (.recover 1 [200, 0]) (at_ 420000 failed)).session.deadline = some 620000 := by decide
theorem test_reset :
    (after .replyTransmissionEnd (at_ 100607 (after (.reset 1 []) active))).resetCause = .request := by
  decide
/-- R172: the reply of 7 bytes takes 607.6 µs at 115,200 baud. -/
theorem test_reset_early :
    (after .replyTransmissionEnd (at_ 100606 (after (.reset 1 []) active))).resetCause = .power := by
  decide
/-- 7.9: a warning with a quarter of 200 ms left. -/
theorem test_warning :
    (after .warningArrival (at_ 190000 active)).link.notices.map (·.content) = [.leaseWarning 50] := by
  decide
/-- 7.9: HOLD keeps the level that the line had, and BASE places no claim. -/
theorem test_leaseExpiry :
    let s := after .leaseExpiry (at_ 240000
      { lined with lines := lined.lines.set 24 (lined.lines[24].place .pin ⟨.high, .none, none⟩) })
    s.lines[24].claims = ⟨some ⟨.high, .none, none⟩, none, none, none, some ⟨.low, .none, none⟩⟩ ∧
      s.lines[22].claims.failsafe = none := by decide
/-- R142: one sample at each device time. -/
theorem test_safeN_once :
    (after (.safeNChange .high) (after (.safeNChange .low) active)).session.safeN.onset = some 100000 := by
  decide
/-- 7.9: LINE joins the cause set 1,000 µs after the pin went low. -/
theorem test_safeN :
    (after .safeNQualification (at_ 101000 (after (.safeNChange .low) failed))).session.record =
      some ⟨.lease, 90000, true, false, true⟩ := by decide
theorem test_unknownRequest : replied (after (.unknownRequest 1 0x7F []) active) = [0x10] := by decide
/-- 9.10: the ACK of notice 7 removes it. -/
theorem test_ack :
    (after (.ack 9 [7]) (noticed [notice7] ⟨2, false, some 150000⟩ .idle)).link.notices = [] := by
  decide
theorem test_arrival :
    (after (.validFrameArrival 9 0x02 []) active).link.waiting = [⟨9, 0x02, []⟩] := by decide
/-- R172, R183: a notice of 9 bytes takes 90 µs at 1,000,000 baud, and is due again 50,000 µs later. -/
theorem test_noticeEnd :
    let s := linked ({ · with rate := .baud1000000 })
      (noticed [notice7] ⟨1, false, none⟩ (.notice notice7.frame 99910))
    (after .noticeTransmissionEnd s).link.inFlight.retransmitAt = some 150000 ∧
      after .noticeTransmissionEnd (at_ 99999 s) = at_ 99999 s := by decide
/-- R172: TXD is high when idle; the SYNC 0xC3, from a start bit, least significant bit first, to a stop bit. -/
theorem test_txd :
    active.link.txd 0 = .high ∧
    ((List.range 10).map fun k => (Link.txd { active.link with
        rate := .baud1000000, tx := .reply ⟨1, 0x83, [0]⟩ 5 } (5 + k))) =
      [.low, .high, .high, .low, .low, .low, .low, .high, .high, .high] := by decide
/-- 9.10: the retransmission arrival at count 4 drops the notice. -/
theorem test_retransmission :
    (after .retransmissionTime (noticed [notice7] ⟨4, false, some 100000⟩ .idle)).link.lost = 1 := by
  decide
theorem test_character :
    (after (.characterReceived 0xC3) active).link.framer = .receiving [0xC3] 100000 := by decide
theorem test_character_len :
    (after (.characterReceived 251)
      (linked ({ · with framer := .receiving [0xC3] 99990 }) active)).link.framingErrors = 1 := by decide
theorem test_gap :
    (after .frameGapTimeout (linked ({ · with framer := .receiving [0xC3] 95000 }) active)).link.framer =
      .hunting := by decide
theorem test_crcError : (after .crcError active).link.crcErrors = 1 := by decide
theorem test_characterFault : (after .characterFault active).link.framingErrors = 1 := by decide
/-- R176: no character follows a fault at once. -/
theorem test_deaf :
    (after (.characterReceived 0xC3) (after .characterFault active)).link.framer = .hunting ∧
      (after .characterFault (after .characterFault active)).link.framingErrors = 1 := by decide
theorem test_lenOutOfRange : (after (.lenOutOfRange 1) active).link.framingErrors = 1 := by decide
set_option maxRecDepth 4000 in
/-- R178: two frames of the longest length leave 4 bytes of the buffer. -/
theorem test_overrun :
    (after (.overrun 0xC3) (linked ({ · with waiting := fullBuffer }) active)).link.overruns = 1 := by
  decide
theorem test_lineBreak :
    (after .lineBreak (noticed [notice7] ⟨3, false, some 120000⟩ .idle)).link.inFlight.count = 0 := by
  decide
theorem test_lineBreakEnd :
    (after .lineBreakEnd (linked ({ · with breakSince := some 90000 })
      (noticed [notice7] ⟨0, false, none⟩ .idle))).link.inFlight.count = 1 := by decide

/-- R187: RXD was high at a received character; a character fault makes a break possible, 2,000 µs after its
start bit. -/
theorem test_lineBreak_afterCharacter :
    (after .lineBreak (at_ 105000 (after (.characterReceived 0) active))).link.breakSince = none ∧
      (after .lineBreak (at_ 102912 (after .characterFault (at_ 101000 active)))).link.breakSince = none ∧
      (after .lineBreak (at_ 102913 (after .characterFault (at_ 101000 active)))).link.breakSince =
        some 102913 := by decide
/-- R187: no character, and no second break, at the end of a break. -/
theorem test_lineBreakEnd_deaf :
    let s := after .lineBreakEnd (linked ({ · with breakSince := some 90000 }) active)
    (after (.characterReceived 0xC3) s).link.framer = .hunting ∧
      (after (.characterReceived 0xC3) (at_ 100086 s)).link.framer = .receiving [0xC3] 100086 ∧
      (after .lineBreak (at_ 101999 s)).link.breakSince = none := by decide

/-! ### Lines (1.9, 2.5) and journal (3.7) -/

theorem test_configureLines :
    (after (.configureLines 1 [1, 21, 2, 1, 0, 0, 3]) active).lines[21].claims.base =
      some ⟨.high, .none, none⟩ := by decide
theorem test_setBase :
    (after (.setBase 1 [1, 24, 1]) lined).lines[24].effective = some .high := by decide
theorem test_setFailsafe :
    (after (.setFailsafe 1 [1, 24, 1]) lined).lines[24].config.failsafe = .low := by decide
/-- 1.9, event 2: a pin of 60,000 µs. -/
theorem test_pinLines :
    (after (.pinLines 1 [1, 24, 0, 1, 0x60, 0xEA, 0]) (at_ 20000 lined)).lines[24].claims.pin =
      some ⟨.low, .none, some 80000⟩ := by decide
theorem test_unpinLines :
    replied (after (.unpinLines 1 [1, 0])
      (after .replyTransmissionEnd (at_ 102000
        (after (.pinLines 1 [1, 24, 1, 0, 0, 0, 0]) lined)))) = [0, 1] := by decide
/-- Lines L22, in bit 6 of the third byte, held low, and L24 to L26 driven low. -/
theorem test_readLevels :
    (replied (after (.readLevels 1 []) lined)).drop 7 = [0, 0, 0, 0, 0, 0, 0, 0x40, 0, 0] := by decide
theorem test_readLine :
    (replied (after (.readLine 1 [24]) queued)).take 8 = [0, 24, 2, 0, 0, 3, 3, 2] := by decide
theorem test_setFilterClasses :
    (after (.setFilterClasses 1 [1, 0, 2, 0, 3, 0, 0, 1]) active).settleTimes = #v[1, 2, 3, 256] := by
  decide
/-- 2.5: L05 to HIGH begins a settle of 100 µs, and back to LOW 60 µs later it is a glitch. -/
theorem test_glitch :
    (after (.rawChange 5 .holdsLow) (at_ 100060
      (after (.rawChange 5 .holdsHigh) lined))).lines[5].glitches = 1 := by decide
/-- R30: a pulse between two samples is not seen. -/
theorem test_one_sample :
    let s := after (.rawChange 5 .holdsLow) (after (.rawChange 5 .holdsHigh) lined)
    s.lines[5].glitches = 0 ∧ (after (.rawChange 5 .holdsLow) (at_ 100001 s)).lines[5].glitches = 1 := by
  decide
/-- R33: sensing that starts takes its first sample, and the next at the next advance of the clock. -/
theorem test_first_sample :
    (after (.rawChange 1 .holdsLow) (after (.configureLines 1 [1, 1, 1, 0, 0, 3, 0]) active)).lines[1].filter =
      some ⟨.high, .high, none, none, true⟩ := by decide
/-- 2.5: L05 RISE, with the onset of the raw change, is qualified 100 µs later. -/
theorem test_qualification :
    (after (.qualification 5) (at_ 100100 (after (.rawChange 5 .holdsHigh) lined))).journal.records =
      [.edge 1 5 .rise 100000 0x20] := by decide
theorem test_claimExpiry :
    (after (.claimExpiry 24 .schedule) (at_ 45000 { lined with
      lines := lined.lines.set 24 (lined.lines[24].place .schedule ⟨.low, .action 22, some 45000⟩) })
      ).lines[24].effective = some .low := by decide
/-- R52: a start that no held record carries. -/
theorem test_readJournal_notFound :
    replied (after (.readJournal 1 [3, 1, 9, 0, 0, 0]) (journalOf (edgeRecords 3))) = [0x44] := by
  decide
set_option maxRecDepth 8000 in
/-- 10.7: sixteen EDGE records make a body of 232 bytes. -/
theorem test_readJournal :
    (replied (after (.readJournal 1 [16, 0, 0, 0, 0, 0]) (journalOf (edgeRecords 20)))).length = 232 := by
  decide
/-- 3.7, step 8, on a small journal. -/
theorem test_releaseJournal :
    replied (after (.releaseJournal 1 [2, 0, 0, 0]) (journalOf (edgeRecords 3))) =
      [0, 2, 0, 1, 0] := by decide
theorem test_clearJournal :
    replied (after (.clearJournal 1 []) (journalOf (edgeRecords 3))) = [0, 3, 0] := by decide
theorem test_setJournal :
    replied (after (.setJournal 1 [0, 1]) (journalOf [])) = [0, 64, 0] := by decide
set_option maxRecDepth 8000 in
/-- 3.7, step 5: an edge that meets a full journal is counted into its GAP. -/
theorem test_gap_counts :
    ((journalOf (edgeRecords 255 ++ [.gap 256 1 70 70 true])).takeJournalEdge
      ⟨5, .rise, 80, 80⟩).journal.records.getLast? = some (.gap 256 2 70 80 true) := by decide

/-! ### Schedule (4.9) and triggers (6.8) -/

/-- The body of a SUBMIT ACTION of a relative due time with targets. -/
def submission (id group due : Nat) (notify : Bool) (targets : List Target) : List Byte :=
  (⟨action id group notify targets, some (.relative due)⟩ : Submission).bytes

/-- 4.9: due relative 99,600 at 100,400 is 200,000. -/
theorem test_submit :
    replied (after (.submitAction 1 (submission 6 2 99600 false [⟨24, .low⟩])) (at_ 100400 lined)) =
      [0, 0, 0, 0, 0, 1] ++ leBytes 6 200000 := by decide
/-- 4.9: 30 µs is too late, and the request time is given. -/
theorem test_submit_late :
    replied (after (.submitAction 1 (submission 8 0 30 false [⟨24, .low⟩])) (at_ 101600 queued)) =
      0x40 :: leBytes 6 101600 := by decide
/-- 4.9: id 7 is applied at 150,000 with a hold of 20,000. -/
theorem test_dueArrival :
    (after .dueArrival (at_ 150000 queued)).lines[26].claims.schedule =
      some ⟨.high, .action 7, some 170000⟩ := by decide
theorem test_guardDeadline :
    (after .guardDeadline (at_ 100900
      (single (.guardWait 100000 100900) (some ⟨5, .high, .wait 900⟩) none))).schedule.outcomes =
      [⟨9, .expired, 100900, 0, 0⟩] := by decide
theorem test_cancelAction :
    replied (after (.cancelAction 1 [6, 0, 1]) queued) = [0, 0, 0, 0, 0, 0, 0] := by decide
/-- 4.9: two entries cancelled, none further, no claim removed. -/
theorem test_cancelGroup :
    replied (after (.cancelGroup 1 [2, 1]) queued) = [0, 2, 0, 0] := by decide
theorem test_queryAction :
    (replied (after (.queryAction 1 [6, 0]) queued)).take 7 = [0, 0, 1, 0, 0, 0, 2] := by decide
/-- 4.9: schedule order is 7, 5, 6. -/
theorem test_listSchedule :
    (replied (after (.listSchedule 1 [0, 10]) queued)).take 5 = [0, 3, 3, 7, 0] := by decide
theorem test_readOutcomes :
    replied (after (.readOutcomes 1 [1]) (after .replyTransmissionEnd (at_ 102000
      (after (.cancelAction 1 [6, 0, 0]) queued)))) =
      [0, 1, 6, 0, 3] ++ leBytes 6 100000 ++ [0, 0, 0, 0, 1, 0] := by decide
/-- 6.8's definition, on the lines of `lined`. -/
theorem test_defineTrigger :
    (after (.defineTrigger 1 ((quiet 300000 .restart).bytes 4)) lined).slots[4] =
      ⟨some (quiet 300000 .restart), .idle, 0, 0, 0⟩ := by decide
theorem test_armTrigger :
    replied (after (.armTrigger 1 [4]) (slotted (quiet 300000 .restart) .idle)) = [0, 2] := by decide
/-- 6.8: the fire time is the qualification time plus 300,000. -/
theorem test_watchedEdge :
    ((slotted (quiet 300000 .restart) .armed).takeTriggerEdge ⟨5, .rise, 2000000, 2000100⟩).slots[4].phase =
      .pending 2300100 := by decide
/-- 6.8: the firing places its claims and enters HOLDOFF for 500,000. -/
theorem test_fireTime :
    let s := after .fireTime (at_ 2590100 (slotted (quiet 300000 .restart) (.pending 2590100)))
    s.slots[4].phase = .holdoff 3090100 ∧ s.slots[4].firings = 1 ∧
      s.lines[24].claims.trigger = some ⟨.high, .slot 4, none⟩ := by decide
theorem test_holdoffEnd :
    (after (.holdoffEnd 4) (at_ 3090100 (slotted (quiet 300000 .restart) (.holdoff 3090100)))).slots[4].phase
      = .armed := by decide
/-- 6.8: DISARM with the release flag replies DEFINED and 2 claims removed. -/
theorem test_disarmTrigger :
    replied (after (.disarmTrigger 1 [4, 1])
      ((slotted (quiet 300000 .restart) .armed).applyTargets .trigger (.slot 4) none
        [⟨24, .high⟩, ⟨25, .low⟩])) = [0, 1, 2] := by decide
theorem test_deleteTrigger :
    (after (.deleteTrigger 1 [4]) (slotted (quiet 300000 .restart) .armed)).lines[24].refs = 0 := by decide
theorem test_readTrigger :
    (replied (after (.readTrigger 1 [4, 0]) (slotted (quiet 300000 .restart) (.pending 7)))).take 5 =
      [0, 3, 4, 5, 0] := by decide

/-! ### Profiles (8.10) and start-up -/

theorem test_beginProfile :
    (after (.beginProfile 1 [2]) active).store.staging = .staging 2 [] := by decide
theorem test_appendRecord :
    replied (after (.appendRecord 1 [3, 2, 64, 0]) (staged [])) = [0, 0, 1] := by decide
theorem test_capture :
    replied (after (.capture 1 []) (staged profile)) = [0, 2] := by decide
theorem test_abandonProfile :
    replied (after (.abandonProfile 1 []) (staged profile)) = [0, 1] := by decide
/-- 8.10: with generations 6 and 5 the target is copy 1, and the generation 7. -/
theorem test_commitProfile :
    replied (after (.commitProfile 1 []) (mediaWith (.valid 6 []) (.valid 5 []) (staged profile))) =
      [1, 1, 7, 0, 0, 0] := by decide
/-- 8.10: a commit of 10 records takes 33 ms. -/
theorem test_commitCompletion :
    let s := operating (.committing 2 .copy1 7 100000 0) { active with store := { active.store with
      staging := .committing 2 (List.replicate 10 (.journal 64)) } }
    (after (.commitCompletion true) (at_ 133000 s)).store.operation = .none ∧
      after (.commitCompletion true) (at_ 132999 s) = at_ 132999 s := by decide
theorem test_loadProfile :
    replied (after (.loadProfile 1 [2]) (mediaWith (.valid 6 profile) .erased active)) =
      [1, 6, 0, 0, 0, 1] := by decide
theorem test_loadCompletion :
    (after (.loadCompletion true) (at_ 101500 (operating (.loading 2 100000)
      (mediaWith (.valid 6 profile) .erased active)))).journal.threshold = 64 := by decide
/-- 8.10: the first copy erased is copy 1, the older generation. -/
theorem test_eraseProfile :
    (after (.eraseProfile 1 [2]) (mediaWith (.valid 8 profile) (.valid 7 profile) active)).store.media.slots[2]
      = ⟨.valid 8 profile, .invalid⟩ := by decide
/-- 8.10: 20 ms later copy 1 is ERASED and copy 0 INVALID. -/
theorem test_eraseFirstStepEnd :
    (after .eraseFirstStepEnd (at_ 120000 (operating (.erasing 2 .copy1 100000 false)
      (mediaWith (.valid 8 profile) .invalid active)))).store.media.slots[2] = ⟨.invalid, .erased⟩ := by
  decide
theorem test_eraseCompletion :
    (after .eraseCompletion (at_ 140000 (operating (.erasing 2 .copy1 100000 true)
      (mediaWith .invalid .erased active)))).store.media.slots[2] = ⟨.erased, .erased⟩ := by decide
theorem test_setBootSlot :
    (after (.setBootSlot 1 [2]) active).store.operation = .bootWrite (some 2) .copy0 1 100000 0 := by
  decide
theorem test_bootWriteCompletion :
    (after (.bootWriteCompletion true) (at_ 110000
      (operating (.bootWrite (some 2) .copy0 1 100000 0) active))).store.media.bootValue = some 2 := by
  decide
/-- R160: an empty profile slot has no records and is EMPTY. -/
theorem test_readProfile :
    (replied (after (.readProfile 1 [2, 0]) active)).take 6 = [0, 2, 0, 0xFF, 0, 0] := by decide
/-- 8.10: a boot profile of 10 records is applied 8,000 µs after the reset. -/
theorem test_startupLoad :
    let s := mediaWith (.valid 6 (List.replicate 10 (.journal 64))) .invalid
      { State.reset with store := { State.reset.store with
          media := { State.reset.store.media with selector := ⟨.valid 1 (some 2), .erased⟩ } } }
    (after (.startupLoadCompletion true) (at_ 8000 s)).store.bootResult = .loaded ∧
      after (.startupLoadCompletion true) (at_ 7999 s) = at_ 7999 s := by decide
theorem test_powerOn : (after (.powerOn .high .low) active).link.rate = .baud1000000 := by decide
theorem test_rstN :
    (after .rstNRelease (after (.rstNAssert .low .high) active)).resetCause = .line := by decide
theorem test_supplyBelowRange : (after .supplyBelowRange active).held = true := by decide
/-- R28: the clock's last value is 2^48 − 1. -/
theorem test_clockLimit : (after .clockLimit (at_ (2 ^ 48 - 1) active)).resetCause = .clock := by decide
theorem test_step : step { active with pending := [.crcError] } = .next (after .crcError active) := rfl

/-! ### Witnesses: states and operands that meet the hypotheses of the statements, clause by clause -/

/-- The part runs, and its transmitter has nothing to choose. -/
abbrev runs (s : State) : Prop := s.held = false ∧ s.link.settled

/-- RST_N is low. -/
def heldLow : State := after (.rstNAssert .low .low) active

theorem witness_IdleStep :
    ((at_ 150000 queued).pending = [] ∧ dueEvents (at_ 150000 queued) ≠ []) ∧
    (dueEvents (at_ lastTime ready) = [] ∧ lastTime ≤ (at_ lastTime ready).now) ∧
    (dueEvents heldLow = [] ∧ heldLow.now < lastTime ∧ heldLow.held = true) ∧
    (dueEvents active = [] ∧ active.now < lastTime ∧ active.held = false) := by
  and_intros <;> decide

/-- R139: at the lease's deadline, and not before, the part takes the expiry of itself. -/
theorem test_due_leaseExpiry :
    Instr.leaseExpiry ∈ dueEvents (at_ 240000 active) ∧ Instr.leaseExpiry ∉ dueEvents (at_ 239999 active) := by
  decide

/-- R179: a waiting request is taken when none is being answered. -/
theorem test_due_request :
    dueEvents (linked ({ · with waiting := [⟨1, 0x02, []⟩] }) active) = [.status 1 []] ∧
      dueEvents (linked ({ · with waiting := [⟨1, 0x02, []⟩], reply := some ⟨1, 0x81, [0]⟩ }) active) = [] := by
  decide

theorem witness_PartHeldInReset :
    heldLow.held = true ∧ Instr.actsWhileHeld .crcError = false ∧ heldLow.heldLawful ∧
      step heldLow = .next heldLow :=
  ⟨rfl, rfl, fun _ => ⟨heldLow.pins, rfl⟩, rfl⟩

theorem witness_StartUpResets :
    (active.pins.rstN = .high ∧ active.pins.supplyInRange = true) ∧
    ((after .supplyBelowRange active).pins.rstN = .high ∧
      (after .supplyBelowRange active).pins.supplyInRange = false) ∧
    heldLow.pins.rstN = .low ∧ (at_ lastTime active).held = false ∧
    (runs active ∧ active.now < lastTime) := by
  unfold runs Link.settled; and_intros <;> decide

/-- TXD carries a reply. -/
def answeringState : State :=
  linked ({ · with tx := .reply ⟨1, 0x83, [0]⟩ 99000, lastSent := .reply }) active

theorem witness_ResetRequestAndReplyEnd :
    active.passes (.reset 1 []) ⟨1, 0x03, []⟩ ∧ answeringState.held = false ∧
      99000 + (⟨1, 0x83, [0]⟩ : Frame).size * 10000000 / answeringState.link.rate.baud ≤
        answeringState.now ∧
      (at_ 99606 answeringState).now <
        99000 + (⟨1, 0x83, [0]⟩ : Frame).size * 10000000 / answeringState.link.rate.baud ∧
      answeringState.link.resetPending = false ∧
      (linked ({ · with resetPending := true }) answeringState).link.resetPending = true := by
  and_intros <;> decide

set_option maxRecDepth 4000 in
theorem witness_FramerReceivesFrames :
    runs active ∧ active.hearing ∧ active.link.framer = .hunting ∧
      (active.link.waiting.map Frame.size).sum + (⟨1, 0x02, []⟩ : Frame).size ≤ 512 ∧
      (0 : Byte) ++ (0 : Byte) ≠ serialCrc [2, 1, 0x02] := by
  unfold runs Link.settled; and_intros <;> decide

/-- The framer holds these bytes. -/
def partialFrame (bs : List Byte) (since : Nat) (s : State) : State :=
  linked ({ · with framer := .receiving bs since }) s

set_option maxRecDepth 4000 in
theorem witness_CharacterReceived :
    runs active ∧ active.hearing ∧ ¬ (linked ({ · with breakSince := some 9 }) active).hearing ∧
    (runs (after .characterFault active) ∧ ¬ (after .characterFault active).hearing) ∧
    active.link.bufferBytes < 512 ∧
    512 ≤ (linked ({ · with waiting := fullBuffer }) active).link.bufferBytes ∧
    (partialFrame [0xC3] 9 active).link.framer = .receiving [0xC3] 9 ∧
    (250 < (251 : Byte).toNat ∧ (1 : Byte).toNat < 2) ∧
    ([0xC3] ++ [(2 : Byte)]).length ≠ (([0xC3] ++ [(2 : Byte)]).getD 1 0).toNat + 4 := by
  unfold runs Link.settled; and_intros <;> decide

theorem witness_ReceiverFaults :
    runs active ∧ active.hearing ∧ active.link.framer = .hunting ∧
    active.link.bufferBytes < 512 ∧
    (runs (partialFrame [0xC3] 95000 active) ∧ 95000 + 5000 ≤ (partialFrame [0xC3] 95000 active).now) ∧
    (runs (partialFrame [0xC3] 95001 active) ∧ active.now < 95001 + 5000) ∧
    runs (linked ({ · with breakSince := some 9 }) active) ∧
    (2 ≤ (2 : Byte).toNat ∧ (250 : Byte).toNat ≤ 250) ∧
    ((partialFrame [0xC3, 2] 9 active).hearing ∧ [(0xC3 : Byte), 2].length ≠ 1) ∧
    ((partialFrame [0xC3] 9 active).hearing ∧ [(0xC3 : Byte)].length = 1 ∧ (1 : Byte).toNat < 2) := by
  unfold runs Link.settled; and_intros <;> decide

/-- The receive buffer is full of waiting frames. -/
def fullState : State := linked ({ · with waiting := fullBuffer }) active

set_option maxRecDepth 4000 in
/-- For ReceiverFaults and FrameArrivals, with a full buffer. -/
theorem witness_full :
    runs fullState ∧ fullState.hearing ∧ fullState.link.framer = .hunting ∧
      512 ≤ fullState.link.bufferBytes ∧
      512 < (fullState.link.waiting.map Frame.size).sum + (⟨1, 0x02, []⟩ : Frame).size := by
  unfold runs Link.settled; and_intros <;> decide

/-- Notice 7 has been transmitted once. -/
def waitingNotice : State := noticed [notice7] ⟨1, false, some 149000⟩ .idle

theorem witness_FrameArrivals :
    runs waitingNotice ∧ waitingNotice.hearing ∧
      (waitingNotice.link.waiting.map Frame.size).sum + (⟨1, 0x70, [7]⟩ : Frame).size ≤ 512 ∧
      (waitingNotice.link.notices = [notice7] ∧ notice7.number ≠ 0 ∧ [(7 : Byte)] = [notice7.number]) ∧
      (∀ n ∈ waitingNotice.link.notices.head?, n.number ≠ 0 → [(8 : Byte)] ≠ [n.number]) := by
  unfold runs Link.settled; and_intros <;> decide

theorem witness_LineBreaks :
    (runs active ∧ active.link.breakSince = none ∧ active.link.rxd = .low 0 ∧ 0 + 2000 ≤ active.now) ∧
    (runs (at_ 1999 active) ∧ (at_ 1999 active).now < 0 + 2000) ∧
    (runs (linked ({ · with rxd := .low 98000 }) active) ∧ 98000 + 2000 ≤ active.now) ∧
    runs (linked ({ · with rxd := .high 9 }) active) ∧
    runs (linked ({ · with breakSince := some 9 }) active) := by
  unfold runs Link.settled; and_intros <;> decide

/-- TXD carries notice 7. -/
def sendingNotice : State := noticed [notice7] ⟨1, false, none⟩ (.notice notice7.frame 99000)

/-- The retransmission time of notice 7 has come, at this count. -/
def lateNotice (count : Nat) : State := noticed [notice7] ⟨count, false, some 100000⟩ .idle

theorem witness_NoticeDelivery :
    (runs sendingNotice ∧ sendingNotice.link.notices = [notice7] ∧
      notice7.number = notice7.frame.seq ∧ sendingNotice.link.inFlight.count ≠ 0 ∧
      99000 + notice7.frame.size * 10000000 / sendingNotice.link.rate.baud ≤ sendingNotice.now ∧
      (at_ 99780 sendingNotice).now <
        99000 + notice7.frame.size * 10000000 / sendingNotice.link.rate.baud) ∧
    (∀ n ∈ (noticed [] .none (.notice notice7.frame 99000)).link.notices.head?,
      n.number ≠ notice7.frame.seq) ∧
    (runs (lateNotice 3) ∧ (lateNotice 3).link.breakSince = none ∧ runs (lateNotice 4)) ∧
    (∀ t ∈ active.link.inFlight.retransmitAt, active.now < t) := by
  unfold runs Link.settled; and_intros <;> decide

theorem witness_NoticeEnqueue :
    ready.session.state = .noSession ∧ active.session.state ≠ .noSession ∧
      active.link.notices.length < 12 ∧
      12 ≤ (noticed (List.replicate 12 notice7) .none .idle).link.notices.length := by
  and_intros <;> decide

theorem witness_TransmitterChoice :
    sendingNotice.link.tx ≠ .idle ∧ active.link.tx = .idle ∧ active.link.reply = none ∧
      active.link.inFlight.due = false ∧
      (noticed [notice7] ⟨0, true, none⟩ .idle).link.breakSince = none ∧
      (noticed [notice7] ⟨0, true, none⟩ .idle).link.inFlight.due = true := by and_intros <;> decide

/-- A STATUS frame. -/
def statusFrame : Frame := ⟨5, 0x02, []⟩

/-- Its reply is in the cache. -/
def cachedState : State :=
  linked ({ · with cache := some ⟨5, 0x02, ⟨5, 0x82, [0]⟩⟩ }) active

theorem witness_WaitingAndDuplicateRequests :
    ((Instr.status 5 []).frame? = some statusFrame ∧ (Instr.status 5 []).wellFormed = true) ∧
    (runs answeringState ∧ answeringState.link.answering = true ∧
      statusFrame ∉ answeringState.link.waiting ∧ answeringState.hearing) ∧
    (sendingNotice.takes statusFrame ∧ sendingNotice.link.tx = .notice notice7.frame 99000) ∧
    statusFrame ∈ (linked ({ · with waiting := [statusFrame] }) answeringState).link.waiting ∧
    cachedState.free statusFrame ∧
    cachedState.link.cache = some ⟨statusFrame.seq, statusFrame.kind, ⟨5, 0x82, [0]⟩⟩ := by
  unfold runs Link.settled; and_intros <;> decide

theorem witness_RefusalOrder :
    (State.reset.quiet ⟨5, 0x08, [0, 0]⟩ ∧ State.reset.starting = true) ∧
    (active.quiet ⟨5, 0x7F, []⟩ ∧ Instr.isKnownRequest (.unknownRequest 5 0x7F []) = false ∧
      active.starting = false ∧ (Instr.unknownRequest 5 0x7F []).wellFormed = true) ∧
    (active.quiet ⟨5, 0x08, [0]⟩ ∧ lengthFits 0x08 [0] = false) ∧
    (active.quiet ⟨5, 0x08, [0, 0]⟩ ∧
      Instr.sessionRefusal (.openSession 5 [0, 0]) active.session.state = some .alreadyOpen) ∧
    ((operating (.loading 2 9) active).quiet ⟨5, 0x41, [4]⟩ ∧
      (Instr.armTrigger 5 [4]).refusedLoading = true) := by and_intros <;> decide

/-- For IdentifyAndStatusReplies, OpenAndRenewSession, CloseSession, FailsafeNow and RecoverSession. -/
theorem witness_session_requests :
    active.passes (.identify 1 []) ⟨1, 0x01, []⟩ ∧ active.passes (.status 1 []) ⟨1, 0x02, []⟩ ∧
    ready.passes (.openSession 1 [10, 0]) ⟨1, 0x08, [10, 0]⟩ ∧
    ready.passes (.openSession 1 [9, 0]) ⟨1, 0x08, [9, 0]⟩ ∧
    active.passes (.renew 1 [1, 10, 0]) ⟨1, 0x09, [1, 10, 0]⟩ ∧
    active.passes (.renew 1 [0, 0, 0]) ⟨1, 0x09, [0, 0, 0]⟩ ∧
    active.passes (.renew 1 [2, 0, 0]) ⟨1, 0x09, [2, 0, 0]⟩ ∧
    (queued.passes (.close 1 [1]) ⟨1, 0x0A, [1]⟩ ∧ queued.schedule.outcomes.length ≤ 16) ∧
    active.passes (.close 1 [0]) ⟨1, 0x0A, [0]⟩ ∧ active.passes (.close 1 [2]) ⟨1, 0x0A, [2]⟩ ∧
    active.passes (.failsafeNow 1 []) ⟨1, 0x0B, []⟩ ∧
    (failed.passes (.recover 1 [10, 0]) ⟨1, 0x0C, [10, 0]⟩ ∧ failed.session.safeN.asserted = false) ∧
    ({ failed with session := { failed.session with safeN := ⟨.low, true, none, false⟩ } }).passes
      (.recover 1 [9, 0]) ⟨1, 0x0C, [9, 0]⟩ := by and_intros <;> decide

/-- For ConfigureLines, SetBaseAndFailsafe, PinAndUnpinLines, ReadLines and SetFilterClasses. -/
theorem witness_line_requests :
    (lined.passes (.configureLines 1 [1, 24, 0, 0, 0, 0, 0]) ⟨1, 0x10, [1, 24, 0, 0, 0, 0, 0]⟩ ∧
      (parseConfigureLines [1, 24, 0, 0, 0, 0, 0]).isSome = true ∧
      lined.lines[24].blocks ⟨.park, .low, 0, .none, .base⟩ = false ∧
      queued.lines[24].blocks ⟨.park, .low, 0, .none, .base⟩ = true) ∧
    parseConfigureLines [1, 40, 0, 0, 0, 0, 0] = none ∧
    (lined.passes (.setBase 1 [1, 24, 1]) ⟨1, 0x11, [1, 24, 1]⟩ ∧
      parseSetBase [1, 24, 1] = some [⟨24, .high⟩] ∧ parseSetBase [1, 24, 2] = none) ∧
    (lined.passes (.setFailsafe 1 [1, 2, 1]) ⟨1, 0x12, [1, 2, 1]⟩ ∧
      parseSetFailsafe [1, 2, 1] = some [⟨2, .low⟩] ∧ parseSetFailsafe [1, 2, 4] = none ∧
      lined.lines[2].isOutput = false ∧ lined.lines[24].isOutput = true) ∧
    (lined.passes (.pinLines 1 [1, 24, 1, 0, 0, 0, 0]) ⟨1, 0x13, [1, 24, 1, 0, 0, 0, 0]⟩ ∧
      parsePinLines [1, 24, 1, 0, 0, 0, 0] = some [⟨24, .high, none⟩] ∧
      parsePinLines [1, 24, 1, 1, 0, 0, 0] = none) ∧
    (lined.passes (.unpinLines 1 [0, 1, 24]) ⟨1, 0x14, [0, 1, 24]⟩ ∧
      parseUnpinLines [0, 1, 24] = some (.list [24]) ∧ parseUnpinLines [1, 0] = some .all ∧
      parseUnpinLines [2, 0] = none) ∧
    lined.passes (.readLevels 1 []) ⟨1, 0x15, []⟩ ∧ lined.passes (.readLine 1 [39]) ⟨1, 0x16, [39]⟩ ∧
    lined.passes (.readLine 1 [40]) ⟨1, 0x16, [40]⟩ ∧
    lined.passes (.setFilterClasses 1 [1, 0, 2, 0, 3, 0, 4, 0]) ⟨1, 0x18, [1, 0, 2, 0, 3, 0, 4, 0]⟩ ∧
    (ready.quiet ⟨1, 0x18, [1, 0, 2, 0, 3, 0, 4, 0]⟩ ∧ ready.session.state = .noSession ∧
      failed.quiet ⟨1, 0x18, [1, 0, 2, 0, 3, 0, 4, 0]⟩ ∧ failed.session.state = .failsafe ∧
      (operating (.loading 2 9) active).store.operation.isLoading = true) := by
  and_intros <;> decide

/-- For ReadJournal and ReleaseClearAndSetJournal. -/
theorem witness_journal :
    (lined.passes (.readJournal 1 [17, 0, 0, 0, 0, 0]) ⟨1, 0x20, [17, 0, 0, 0, 0, 0]⟩ ∧
      parseReadJournal [17, 0, 0, 0, 0, 0] = none) ∧
    ((journalOf (edgeRecords 3)).passes (.readJournal 1 [3, 1, 2, 0, 0, 0])
        ⟨1, 0x20, [3, 1, 2, 0, 0, 0]⟩ ∧
      parseReadJournal [3, 1, 2, 0, 0, 0] = some (3, some 2) ∧
      (journalOf (edgeRecords 3)).journal.records.map (·.seq) = [1] ++ 2 :: [3]) ∧
    parseReadJournal [3, 0, 0, 0, 0, 0] = some (3, none) ∧
    (journalOf (edgeRecords 3)).passes (.releaseJournal 1 [2, 0, 0, 0]) ⟨1, 0x21, [2, 0, 0, 0]⟩ ∧
    (∀ r ∈ (journalOf (edgeRecords 3)).journal.records, r.seq ≠ 9) ∧
    lined.passes (.clearJournal 1 []) ⟨1, 0x22, []⟩ ∧
    lined.passes (.setJournal 1 [0, 1]) ⟨1, 0x23, [0, 1]⟩ ∧
    lined.passes (.setJournal 1 [1, 1]) ⟨1, 0x23, [1, 1]⟩ := by and_intros <;> decide

set_option maxRecDepth 16000 in
theorem witness_JournalTakesEdge :
    lined.lines[5].config.sense.journals .rise = true ∧
    active.lines[5].config.sense.journals .rise = false ∧
    (lined.journal.records.length < 255 ∧ lined.journal.openGapNewest = false) ∧
    (255 ≤ (journalOf (edgeRecords 255)).journal.records.length ∧
      (journalOf (edgeRecords 255)).journal.openGapNewest = false) ∧
    255 ≤ (edgeRecords 254 ++ [JournalRecord.gap 255 1 9 9 true]).length ∧
    (edgeRecords 253 ++ [JournalRecord.gap 255 1 9 9 true]).length < 255 := by and_intros <;> decide

theorem witness_JournalLawsKept :
    State.reset.journal.lawful ∧ ∃ t, step State.reset = .next t :=
  ⟨by unfold Journal.lawful; decide, _, rfl⟩

/-- For SubmitAction. -/
theorem witness_submit :
    (lined.passes (.submitAction 1 (submission 6 2 99600 false [⟨24, .low⟩]))
        ⟨1, 0x30, submission 6 2 99600 false [⟨24, .low⟩]⟩ ∧
      parseSubmit (submission 6 2 99600 false [⟨24, .low⟩]) =
        some ⟨action 6 2 false [⟨24, .low⟩], some (.relative 99600)⟩ ∧
      lined.submissionRefusal ⟨action 6 2 false [⟨24, .low⟩], some (.relative 99600)⟩ = none ∧
      queued.submissionRefusal ⟨action 6 2 false [⟨24, .low⟩], some (.relative 99600)⟩ =
        some (0x43, [])) ∧
    parseSubmit (submission 0 2 99600 false [⟨24, .low⟩]) = none := by and_intros <;> decide

/-- The schedule of one entry is lawful unless it waits for a predecessor. -/
theorem lawful_single (e : Entry) (h : e.state ≠ .waitingPred) (n : Serial) (os : List OutcomeRecord) :
    (⟨[e], n, os⟩ : Schedule).lawful := by
  refine ⟨by simp, by simp, fun earlier later x hx hw => ?_⟩
  cases earlier with
  | nil => cases hx; exact absurd hw h
  | cons y ys => simp at hx

/-- L05 is to be HIGH. -/
def wanted (m : GuardMode) : Option Guard := some ⟨5, .high, m⟩

theorem witness_LeavingTheSchedule :
    (single (.timed 100000) none none).schedule.lawful ∧
      (single (.timed 100000) none none).schedule.entries ≠ [] :=
  ⟨lawful_single _ (by decide) _ _, by decide⟩

/-- An entry of id 9 and its dependent of id 10, both of group 1. -/
def chained : State :=
  let s := single (.timed 200000) none none
  { s with schedule := { s.schedule with entries := s.schedule.entries ++
      [⟨{ action 10 1 false [⟨25, .high⟩] with chain := some ⟨9, 5⟩ }, 1, .waitingPred, 0, 0, none⟩] } }

theorem witness_CancelRequests :
    (queued.passes (.cancelAction 1 [6, 0, 1]) ⟨1, 0x31, [6, 0, 1]⟩ ∧
      parseCancelAction [6, 0, 1] = some (6, true) ∧ queued.schedule.find 6 ≠ none ∧
      queued.schedule.find 8 = none ∧ parseCancelAction [0, 0, 1] = none) ∧
    (queued.passes (.cancelGroup 1 [2, 1]) ⟨1, 0x32, [2, 1]⟩ ∧
      parseCancelGroup [2, 1] = some (2, true) ∧ parseCancelGroup [0, 1] = none ∧
      queued.schedule.outcomes.length ≤ 16) ∧
    (chained.passes (.cancelGroup 1 [1, 1]) ⟨1, 0x32, [1, 1]⟩ ∧ chained.schedule.lawful ∧
      (chained.groupLeavings 1 .hostGroup).map (fun l => (l.1.action.id, l.2)) =
        [(9, .cancelled .hostGroup), (10, .orphaned 9)]) ∧
    (quiet 9 .restart).cancelGroup ≠ 0 := by
  refine ⟨?_, ?_, ⟨?_, ?_, ?_⟩, ?_⟩
  case refine_4 =>
    refine ⟨by decide, by decide, fun earlier later x hx hw => ?_⟩
    have hl : 2 = _ := congrArg List.length hx
    match earlier, hx, hl with
    | [], hx, _ => cases hx; exact absurd hw (by simp)
    | [_], hx, _ => cases hx; exact ⟨⟨9, 5⟩, _, rfl, .head _, rfl, rfl⟩
    | _ :: _ :: _, _, hl => simp at hl
  all_goals and_intros <;> decide

/-- R82, R108: the predecessor is cancelled, and its dependent of the same group leaves ORPHANED. -/
theorem test_cancelGroup_chain :
    let s := after (.cancelGroup 1 [1, 0]) chained
    replied s = [0, 1, 1, 0] ∧ s.schedule.outcomes.map (·.outcome) =
      [.cancelled .hostGroup, .orphaned 9] := by decide

/-- R94: two entries that wait for one edge are applied in schedule order, so the later one owns the line. -/
theorem test_guardEdge_order :
    let e : Entry := ⟨{ action 9 1 false [⟨24, .high⟩] with guard := wanted (.wait 900) }, 0,
      .guardWait 99000 99900, 0, 0, none⟩
    let d : Entry := ⟨{ action 8 1 false [⟨24, .low⟩] with guard := wanted (.wait 900) }, 1,
      .guardWait 98000 99900, 0, 0, none⟩
    let s := { lined with schedule := ⟨[e, d], 2, []⟩ }.takeGuardEdge ⟨5, .rise, 9, 9⟩
    s.schedule.outcomes.map (·.id) = [8, 9] ∧
      s.lines[24].claims.schedule = some ⟨.high, .action 9, none⟩ := by decide

theorem witness_ScheduleReads :
    queued.passes (.queryAction 1 [6, 0]) ⟨1, 0x33, [6, 0]⟩ ∧
    queued.passes (.queryAction 1 [0, 0]) ⟨1, 0x33, [0, 0]⟩ ∧
    queued.passes (.listSchedule 1 [47, 10]) ⟨1, 0x34, [47, 10]⟩ ∧
    queued.passes (.listSchedule 1 [48, 10]) ⟨1, 0x34, [48, 10]⟩ ∧
    queued.passes (.readOutcomes 1 [1]) ⟨1, 0x35, [1]⟩ ∧
    queued.passes (.readOutcomes 1 [2]) ⟨1, 0x35, [2]⟩ := by and_intros <;> decide

theorem witness_DueArrival :
    (runs (single (.timed 100000) none none) ∧
      scheduleOrder (single (.timed 100000) none none).schedule.entries =
        [] ++ ⟨action 9 1 true [⟨24, .toggle⟩], 0, .timed 100000, 0, 0, none⟩ :: []) ∧
    (runs (single (.timed 100000) (wanted .skip) (some ⟨60, 0⟩)) ∧
      (single (.timed 100000) (wanted .skip) (some ⟨60, 0⟩)).lines[5].sensedLevel ≠ .high) ∧
    runs (single (.timed 100000) (wanted (.wait 900)) none) ∧
    ((single (.timed 100000) none (some ⟨60, 2⟩)).schedule.entries.map Entry.atLast = [false] ∧
      (single (.timed 100000) none none).schedule.entries.map
        (fun e => ({ e with applied := 1 } : Entry).atLast) = [true]) ∧
    (runs queued ∧ ∀ e ∈ queued.schedule.entries, ∀ d ∈ e.state.due, queued.now < d) := by
  unfold runs Link.settled; and_intros <;> decide

/-- An entry waits for L05 HIGH until this time. -/
def guarded (deadline : Nat) : State := single (.guardWait 99000 deadline) (wanted (.wait 900)) none

theorem witness_GuardWaitEnds :
    (runs (guarded 100000) ∧ runs (guarded 100001) ∧ (guarded 100000).now = 100000) ∧
    (∀ e ∈ queued.schedule.entries, e.wantsEdge ⟨5, .rise, 9, 9⟩ = false) ∧
    ((guarded 100001).schedule.lawful ∧ (guarded 100001).schedule.entries ≠ [] ∧
      ∀ e ∈ (guarded 100001).schedule.entries, e.wantsEdge ⟨5, .rise, 9, 9⟩ = true) := by
  refine ⟨by unfold runs Link.settled; and_intros <;> decide, by decide, lawful_single _ (by decide) _ _, by decide,
    by decide⟩

/-- For DefineTrigger and TriggerSlotRequests. -/
theorem witness_trigger_requests :
    (lined.passes (.defineTrigger 1 ((quiet 9 .restart).bytes 4)) ⟨1, 0x40, (quiet 9 .restart).bytes 4⟩ ∧
      parseTriggerDef ((quiet 9 .restart).bytes 4) = some (4, quiet 9 .restart) ∧
      lined.definitionRefusal 4 (quiet 9 .restart) = none ∧
      (slotted (quiet 9 .restart) .armed).definitionRefusal 4 (quiet 9 .restart) = some (0x50, []) ∧
      parseTriggerDef ((quiet 9 .restart).bytes 4 |>.set 0 16) = none) ∧
    ((slotted (quiet 9 .restart) .idle).passes (.armTrigger 1 [4]) ⟨1, 0x41, [4]⟩ ∧
      (slotted (quiet 9 .restart) .idle).slots[4].definition ≠ none ∧
      (slotted (quiet 9 .restart) .idle).slots[4].phase = .idle ∧
      lined.slots[4].definition = none) ∧
    (lined.passes (.armTrigger 1 [16]) ⟨1, 0x41, [16]⟩ ∧
      lined.passes (.disarmTrigger 1 [15, 1]) ⟨1, 0x42, [15, 1]⟩ ∧
      lined.passes (.disarmTrigger 1 [4, 2]) ⟨1, 0x42, [4, 2]⟩ ∧
      lined.passes (.deleteTrigger 1 [15]) ⟨1, 0x43, [15]⟩ ∧
      lined.passes (.deleteTrigger 1 [16]) ⟨1, 0x43, [16]⟩ ∧
      lined.passes (.readTrigger 1 [15, 1]) ⟨1, 0x44, [15, 1]⟩ ∧
      lined.passes (.readTrigger 1 [16, 0]) ⟨1, 0x44, [16, 0]⟩) := by and_intros <;> decide

theorem witness_WatchedEdge :
    ((quiet 9 .restart).watched = 5 ∧ (quiet 9 .restart).edge.selects .rise = true ∧
      (quiet 9 .restart).edge.selects .fall = false) ∧
    (slotted (quiet 0 .ignore) .armed).slots[4].definition = some (quiet 0 .ignore) ∧
    lined.lines[2].sensedLevel = .low ∧
    (slotted (quiet 9 .restart) (.pending 7)).slots[4].phase = .pending 7 ∧
    (slotted (quiet 9 .ignore) (.holdoff 7)).slots[4].phase = .holdoff 7 ∧
    (∀ j : SlotNo, j ≠ 4 → (slotted (quiet 9 .ignore) .armed).slots[j].definition = none) := by
  and_intros <;> decide

theorem witness_TriggerFires :
    (slotted (quiet 9 .restart) .armed).slots[4].definition = some (quiet 9 .restart) := by decide

/-- T4 and T9 hold one definition and have one fire time. -/
def twoPending : State :=
  let s := slotted (quiet 9 .restart) (.pending 100000)
  { s with slots := s.slots.set 9 ⟨some (quiet 9 .restart), .pending 100000, 0, 0, 0⟩ }

/-- For TriggerTimes, with two slots due. -/
theorem witness_TriggerTimes_two :
    runs twoPending ∧ [(4 : SlotNo), 9].Sublist (List.finRange 16) ∧
      (∀ k : SlotNo, k ∈ [(4 : SlotNo), 9] ↔ ∃ time,
        twoPending.slots[k].phase = .pending time ∧
          time ≤ twoPending.now) := by
  simp only [← Slot.fireDueBy_iff]
  unfold runs Link.settled; and_intros <;> decide

/-- R117: of slots that have one fire time the lowest fires first. -/
theorem test_fireTime_order :
    (after .fireTime twoPending).link.notices.map (·.content) =
      [.triggerFired 4 1 100000, .triggerFired 9 1 100000] := by decide

theorem witness_TriggerTimes :
    runs (slotted (quiet 9 .restart) (.pending 100000)) ∧
    (slotted (quiet 9 .restart) (.pending 100000)).slots[4].phase = .pending 100000 ∧
    (∀ j : SlotNo, j ≠ 4 → (slotted (quiet 9 .restart) (.pending 100000)).slots[j].phase = .idle) ∧
    (runs (slotted (quiet 9 .restart) (.holdoff 100000)) ∧
      (slotted (quiet 9 .restart) (.holdoff 100000)).slots[4].phase = .holdoff 100000) ∧
    (runs lined ∧ ∀ k : SlotNo, lined.slots[k].phase = .idle) := by
  unfold runs Link.settled; and_intros <;> decide

theorem witness_StagingRequests :
    (active.passes (.beginProfile 1 [3]) ⟨1, 0x50, [3]⟩ ∧ active.store.operation = .none ∧
      active.store.staging = .idle ∧ (staged []).store.staging ≠ .idle) ∧
    active.passes (.beginProfile 1 [4]) ⟨1, 0x50, [4]⟩ ∧
    (operating (.erasing 2 .copy0 9 false) active).passes (.beginProfile 1 [3]) ⟨1, 0x50, [3]⟩ ∧
    ((staged []).passes (.appendRecord 1 [3, 2, 64, 0]) ⟨1, 0x51, [3, 2, 64, 0]⟩ ∧
      parseAppendRecord [3, 2, 64, 0] = some (.journal 64) ∧
      parseAppendRecord [3, 2, 0, 0] = none) ∧
    ((staged []).store.staging = .staging 2 [] ∧
      32 ≤ (List.replicate 32 (ProfileRecord.journal 64)).length) ∧
    (staged profile).passes (.capture 1 []) ⟨1, 0x52, []⟩ ∧
    (staged profile).passes (.abandonProfile 1 []) ⟨1, 0x53, []⟩ := by and_intros <;> decide

/-- A commit of `profile` to slot 2 began at 76,000. -/
def committing : State :=
  { active with store := { active.store with
      staging := .committing 2 profile, operation := .committing 2 .copy1 7 76000 0 } }

theorem witness_CommitProfile :
    ((staged profile).passes (.commitProfile 1 []) ⟨1, 0x54, []⟩ ∧
      (staged profile).store.operation = .none ∧ (staged profile).store.staging = .staging 2 profile ∧
      profile ≠ [] ∧ invalidAt profile = none) ∧
    ((ProfileRecord.journal 3).bad [.journal 64, .journal 3] [.journal 64] = true ∧
      (ProfileRecord.journal 64).bad [.journal 64, .journal 3] [] = false) ∧
    (runs committing ∧ committing.store.staging.records = profile ∧
      76000 + (20 + profile.length + 2 + 1) * 1000 ≤ committing.now) ∧
    (runs (at_ 98000 committing) ∧ (at_ 98000 committing).now < 76000 + (20 + profile.length + 2) * 1000) ∧
    ((⟨.valid 6 profile, .valid 5 []⟩ : CopyPair (List ProfileRecord)).target = .copy1 ∧
      (⟨.valid 0xFFFFFFFF profile, .valid 0 []⟩ : CopyPair (List ProfileRecord)).target = .copy0) := by
  unfold runs Link.settled; and_intros <;> decide

/-- A LOAD of slot 2 began at 98,500. -/
def loading : State := operating (.loading 2 98500) (mediaWith (.valid 6 profile) .erased active)

theorem witness_LoadProfile :
    active.passes (.loadProfile 1 [4]) ⟨1, 0x55, [4]⟩ ∧
    (active.passes (.loadProfile 1 [2]) ⟨1, 0x55, [2]⟩ ∧ active.store.operation = .none ∧
      active.store.media.slots[2].loadable = none) ∧
    ((mediaWith (.valid 6 profile) .erased active).passes (.loadProfile 1 [2]) ⟨1, 0x55, [2]⟩ ∧
      (mediaWith (.valid 6 profile) .erased active).store.media.slots[2].loadable =
        some (.copy0, 6, profile) ∧
      active.schedule.entries = [] ∧ ∀ i : LineNo, active.lines[i].claims.pin = none) ∧
    (mediaWith (.valid 6 profile) .erased queued).schedule.entries ≠ [] ∧
    (runs loading ∧ 98500 + 1000 + 500 * profile.length ≤ loading.now ∧
      (at_ 99999 loading).now < 98500 + 1000 + 500 * profile.length) := by
  unfold runs Link.settled; and_intros <;> decide

/-- An erase of slot 2 began at this time. -/
def erasing (started : Nat) (second : Bool) : State := operating (.erasing 2 .copy1 started second) active

theorem witness_EraseProfile :
    active.passes (.eraseProfile 1 [4]) ⟨1, 0x56, [4]⟩ ∧ active.passes (.eraseProfile 1 [3]) ⟨1, 0x56, [3]⟩ ∧
    (erasing 9 true).passes (.eraseProfile 1 [3]) ⟨1, 0x56, [3]⟩ ∧
    (runs (erasing 80000 false) ∧ 80000 + 20000 ≤ (erasing 80000 false).now) ∧
    (runs (erasing 60000 true) ∧ 60000 + 40000 ≤ (erasing 60000 true).now) ∧
    (erasing 60001 true).now < 60001 + 40000 := by
  unfold runs Link.settled; and_intros <;> decide

/-- A selector write began at this time. -/
def selecting (started : Nat) : State := operating (.bootWrite none .copy0 1 started 0) active

theorem witness_SetBootSlot :
    active.passes (.setBootSlot 1 [4]) ⟨1, 0x57, [4]⟩ ∧
    active.passes (.setBootSlot 1 [0xFF]) ⟨1, 0x57, [0xFF]⟩ ∧
    active.passes (.setBootSlot 1 [3]) ⟨1, 0x57, [3]⟩ ∧
    (runs (selecting 90000) ∧ 90000 + 10000 ≤ (selecting 90000).now) ∧
    (runs (selecting 91001) ∧ (selecting 91001).now < 91001 + 9000) := by
  unfold runs Link.settled; and_intros <;> decide

theorem witness_ReadProfile :
    active.passes (.readProfile 1 [0x10, 31]) ⟨1, 0x58, [0x10, 31]⟩ ∧
    active.passes (.readProfile 1 [4, 0]) ⟨1, 0x58, [4, 0]⟩ ∧
    active.passes (.readProfile 1 [3, 0]) ⟨1, 0x58, [3, 0]⟩ ∧
    (erasing 9 true).passes (.readProfile 1 [3, 0]) ⟨1, 0x58, [3, 0]⟩ := by and_intros <;> decide

/-- A start-up load at this time, with slot 2 as the boot slot. -/
def booting (c : Copy (List ProfileRecord)) (t : Nat) : State :=
  mediaWith c .erased (at_ t { State.reset with store := { State.reset.store with
    media := { State.reset.store.media with selector := ⟨.valid 1 (some 2), .erased⟩ } } })

theorem witness_StartupLoad :
    (runs active ∧ active.starting = false) ∧
    (runs (booting (.valid 6 profile) 3500) ∧ (booting (.valid 6 profile) 3500).starting = true ∧
      (booting (.valid 6 profile) 3500).store.media.bootValue = some 2 ∧
      (booting (.valid 6 profile) 3500).store.media.slots[2].loadable = some (.copy0, 6, profile) ∧
      3000 + 500 * profile.length ≤ (booting (.valid 6 profile) 3500).now) ∧
    (booting .invalid 2000).store.media.slots[2].loadable = none ∧
    (runs (at_ 2000 State.reset) ∧ State.reset.store.media.bootValue = none ∧
      State.reset.session.state = .noSession ∧ State.reset.store.operation = .none) := by
  unfold runs Link.settled; and_intros <;> decide

/-- L05 in this class has begun a settle of 100 µs. -/
def settling (t : Nat) : State := at_ t (after (.rawChange 5 .holdsHigh) lined)

theorem witness_RawChange :
    (runs lined ∧ lined.lines[24].filter = none) ∧
    (runs (settling 100099) ∧ (settling 100099).lines[5].filter =
      some ⟨.high, .low, some ⟨100000, 100⟩, none, false⟩) ∧
    (after (.rawChange 5 .holdsHigh) lined).lines[5].filter =
      some ⟨.high, .low, some ⟨100000, 100⟩, none, true⟩ ∧
    pinLevel .holdsLow none = .low ∧ pinLevel .holdsHigh none = .high ∧
    (lined.lines[5].filter = some ⟨.low, .low, none, none, false⟩ ∧
      0 < lined.settleTimes[lined.lines[5].config.cls]) ∧
    lined.settleTimes[lined.lines[22].config.cls] = 0 := by
  unfold runs Link.settled; and_intros <;> decide

theorem witness_QualificationDeliversEdge :
    (runs (settling 100100) ∧ 100000 + 100 ≤ (settling 100100).now) ∧
    (runs (settling 100099) ∧ (settling 100099).now < 100000 + 100) ∧
    (after (.rawChange 5 .holdsLow) (settling 100100)).lines[5].filter =
      some ⟨.low, .low, some ⟨100000, 100⟩, none, true⟩ ∧
    (runs { settling 100100 with settleTimes := #v[0, 0, 0, 0] } ∧
      ({ settling 100100 with settleTimes := #v[0, 0, 0, 0] } : State).settleTimes[
        (settling 100100).lines[5].config.cls] = 0) := by
  unfold runs Link.settled; and_intros <;> decide

/-- L24 is pinned HIGH until this time. -/
def pinned (t : Nat) : State :=
  { lined with lines := lined.lines.set 24 (lined.lines[24].place .pin ⟨.high, .none, some t⟩) }

theorem witness_ClaimsWinAndExpire :
    (lined.lines[5].isOutput = false ∧ lined.lines[24].isOutput = true) ∧
    (pinned 100000).lines[24].claims.get .pin = some ⟨.high, .none, some 100000⟩ ∧
    ((pinned 100000).lines[24].claims.failsafe = none) ∧
    (runs (pinned 100000) ∧ 100000 ≤ (pinned 100000).now ∧ runs (pinned 100001)) := by
  unfold runs Link.settled; and_intros <;> decide

theorem witness_LeaseTimes :
    (runs (at_ 190000 active) ∧ (at_ 190000 active).session.state = .active ∧
      (at_ 190000 active).session.warning = some 190000) ∧
    (runs (at_ 240000 active) ∧ (at_ 240000 active).session.deadline = some 240000 ∧
      active.schedule.outcomes.length ≤ 16) ∧
    (runs failed ∧ failed.session.state ≠ .active) ∧
    (∀ time ∈ active.session.deadline, active.now < time) := by
  unfold runs Link.settled; and_intros <;> decide

/-- SAFE_N has been low since 1 ms. -/
def asserting (s : State) : State :=
  { s with
    pins := { s.pins with safeN := .low }
    session := { s.session with safeN := ⟨.low, false, some (s.now - 1000), true⟩ } }

theorem witness_SafeNInput :
    (runs active ∧ active.session.safeN.onset = none ∧ active.session.safeN.sampled = false) ∧
    (runs (asserting active) ∧ (asserting active).session.safeN.onset = some 99000 ∧
      99000 + 1000 ≤ (asserting active).now ∧ (asserting active).session.safeN.raw = .low ∧
      (asserting active).session.safeN.sampled = true) ∧
    (runs (asserting failed) ∧ (asserting failed).session.state = .failsafe) ∧
    ((asserting (at_ 1500 State.reset)).starting = true ∧
      runs (asserting (at_ 1500 State.reset))) ∧
    ((asserting ready).session.state = .noSession ∧ (asserting ready).starting = false) := by
  unfold runs Link.settled; and_intros <;> decide

theorem witness_RequestLayoutsRoundTrip :
    parseUnpinLines [0, 1, 24] = some (.list [24]) ∧ parseUnpinLines [1, 0] = some .all ∧
    parseReadJournal [3, 1, 2, 0, 0, 0] = some (3, some 2) ∧
    parseCancelAction [6, 0, 1] = some (6, true) ∧ parseCancelGroup [2, 1] = some (2, true) ∧
    ((1 ≤ [(⟨24, .high, some 5⟩ : PinItem)].length ∧
      ([(⟨24, .high, some 5⟩ : PinItem)].map (·.line)).Nodup)) ∧
    (⟨action 6 2 false [⟨24, .low⟩], some (.relative 50)⟩ : Submission).inRange := by
  refine ⟨by decide, by decide, by decide, by decide, by decide, ?_⟩
  unfold Submission.inRange; simp [action]

theorem witness_RecordLayoutsRoundTrip :
    (quiet 300000 .restart).inRange ∧ (ProfileRecord.journal 256).inRange ∧
      (ProfileRecord.label [0x41]).inRange := by
  unfold ProfileRecord.inRange TriggerDef.inRange; simp [quiet]

/-- For LineLawsKept, BoundsKept and FailsafeLawsKept: a state with lines, claims and a queued entry. -/
theorem witness_invariants :
    State.linesLawful (at_ 99999 (single (.timed 100000) none none)) ∧
    (at_ 99999 (single (.timed 100000) none none)).bounded ∧
    (at_ 99999 (single (.timed 100000) none none)).failsafeLawful ∧
    ∃ t, step (at_ 99999 (single (.timed 100000) none none)) = .next t := by
  refine ⟨?_, ?_, ?_, ?_⟩
  · unfold State.linesLawful Line.lawful; decide
  · unfold State.bounded Link.lawful Link.settled
    exact ⟨⟨trivial, by decide⟩, by decide⟩
  · unfold State.failsafeLawful Line.swept; decide
  · exact ⟨_, rfl⟩

theorem witness_ReferenceLawsKept :
    (at_ 99999 (single (.timed 100000) none none)).referencesLawful := by
  refine ⟨lawful_single _ (by decide) _ _, by decide, by decide, ?_, by decide, ?_, trivial⟩
  · intro k d h
    have : ∀ k : SlotNo, (single (.timed 100000) none none).slots[k].definition = none := by decide
    exact absurd ((this k).symm.trans h) (by simp)
  · intro p n g rs h
    have : ∀ p : ProfileNo, (single (.timed 100000) none none).store.media.slots[p].get n = .erased := by
      cases n <;> decide
    exact absurd ((this p).symm.trans h) (by simp)

end Sys2Proof.Tests
end

/-! ### SET FILTER CLASSES: the fields of its body, its gate and its answer (R32) -/

section
namespace Sys2Proof.Machine

/-- A field that carries a number which fits it is read back as that number, whatever stands around it (R192). -/
theorem field_leBytes {offset width n : Nat} {before after : List Byte}
    (hb : before.length = offset) (hn : n < 256 ^ width) :
    field (before ++ (leBytes width n ++ after)) offset width = n := by
  have hslice : slice (before ++ (leBytes width n ++ after)) offset width = leBytes width n := by
    simp [slice, ← hb]
  rw [field, hslice, leNat_leBytes width n hn]

/-- The four settle times stand in a body one behind another, in the order of their classes (R32, R192). -/
theorem settleTimesBytes_eq (v : Vector Nat 4) :
    settleTimesBytes v = leBytes 2 v[0] ++ leBytes 2 v[1] ++ leBytes 2 v[2] ++ leBytes 2 v[3] := by
  obtain ⟨⟨times⟩, hsize⟩ := v
  match times, hsize with
  | [_, _, _, _], _ => rfl

@[simp] theorem settleTimesBytes_length (v : Vector Nat 4) : (settleTimesBytes v).length = 8 := by
  simp [settleTimesBytes_eq]

/-- Settle times that fit their fields are read back from the bytes that carry them (R32). -/
theorem parseSettleTimes_settleTimesBytes (v : Vector Nat 4) (hv : ∀ c : Fin 4, v[c] < 65536) :
    parseSettleTimes (settleTimesBytes v) = v := by
  have hbytes : settleTimesBytes v =
      leBytes 2 v[0] ++ (leBytes 2 v[1] ++ (leBytes 2 v[2] ++ (leBytes 2 v[3] ++ []))) := by
    simp [settleTimesBytes_eq]
  have h0 : field (settleTimesBytes v) 0 2 = v[0] := by
    rw [hbytes]; exact field_leBytes (before := []) rfl (hv 0)
  have h1 : field (settleTimesBytes v) 2 2 = v[1] := by
    rw [hbytes]; exact field_leBytes (by simp) (hv 1)
  have h2 : field (settleTimesBytes v) 4 2 = v[2] := by
    rw [hbytes, ← List.append_assoc]; exact field_leBytes (by simp) (hv 2)
  have h3 : field (settleTimesBytes v) 6 2 = v[3] := by
    rw [hbytes, ← List.append_assoc, ← List.append_assoc]
    exact field_leBytes (by simp) (hv 3)
  rw [parseSettleTimes, h0, h1, h2, h3]
  ext c hc
  match c, hc with
  | 0, _ | 1, _ | 2, _ | 3, _ => rfl

variable {s : State} {f : Frame} {st : Status}

/-- Checks 1 to 3 of R179 passed, the session state decides first: check 4 refuses by the table of R147. -/
theorem gate_refused_session (hs : s.starting = false) (hk : f.kind ∈ requestKinds)
    (hl : lengthFits f.kind f.body = true) (hg : sessionGate f.kind s.session.state = some st) :
    gate f (s.received f) = some st := by
  rw [gate_received, gate]
  simp [hs, hk, hl, hg]

/-- Checks 1 to 4 of R179 passed, check 5 refuses what R163 lists while a LOAD is in flight. -/
theorem gate_refused_loading (hs : s.starting = false) (hk : f.kind ∈ requestKinds)
    (hl : lengthFits f.kind f.body = true) (hg : sessionGate f.kind s.session.state = none)
    (ho : s.store.operation.isLoading = true) (hf : refusedWhileLoading f = true) :
    gate f (s.received f) = some .loading := by
  rw [gate_received, gate]
  simp [hs, hk, hl, hg, ho, hf]

/-- SET FILTER CLASSES that passes checks 1 to 5: the settle times of its body are in force, and its reply carries
those it found (R32). -/
theorem execSetFilterClasses_passes {seq : Byte} {v : Vector Nat 4}
    (h : s.passes (.setFilterClasses seq (settleTimesBytes v)) ⟨seq, 0x18, settleTimesBytes v⟩)
    (hv : ∀ k : Fin 4, v[k] < 65536) :
    execSetFilterClasses seq (settleTimesBytes v) s = .next
      { s.serving ⟨seq, 0x18, settleTimesBytes v⟩ 0x00 (settleTimesBytes s.settleTimes) with
        settleTimes := v } := by
  have hanswer : answerSetFilterClasses (settleTimesBytes v)
        (s.received ⟨seq, 0x18, settleTimesBytes v⟩) =
      .done .ok (settleTimesBytes s.settleTimes)
        ((s.received ⟨seq, 0x18, settleTimesBytes v⟩).setSettleTimes v) := by
    rw [answerSetFilterClasses, parseSettleTimes_settleTimesBytes v hv, State.received_settleTimes]
  rw [execSetFilterClasses, State.serve_passes_done h hanswer rfl (State.received_now s _)]
  rfl

/-- SET FILTER CLASSES that the gate refuses changes nothing but what every refusal does. -/
theorem execSetFilterClasses_gated {seq : Byte} {body : List Byte} (hq : s.quiet ⟨seq, 0x18, body⟩)
    (hg : gate ⟨seq, 0x18, body⟩ (s.received ⟨seq, 0x18, body⟩) = some st) :
    execSetFilterClasses seq body s = .next (s.refusing ⟨seq, 0x18, body⟩ st.code []) := by
  have hkind : (0x18 : Byte) ≠ ackKind := by decide
  rw [execSetFilterClasses, State.serve_gated hq hkind hg]

/-- Settles O27, from the outcome of a SET FILTER CLASSES that passes and the gate's refusals of the others. -/
theorem setFilterClasses : Obligations.SetFilterClasses := by
  intro s seq a b c d body f ha hb hc hd hbody hf
  obtain rfl : body = settleTimesBytes #v[a, b, c, d] := by
    rw [settleTimesBytes_eq]; exact hbody
  subst hf
  have hv : ∀ k : Fin 4, #v[a, b, c, d][k] < 65536
    | 0 => ha
    | 1 => hb
    | 2 => hc
    | 3 => hd
  have hkind : (0x18 : Byte) ∈ requestKinds := by decide
  have hlength : lengthFits 0x18 (settleTimesBytes #v[a, b, c, d]) = true := by simp [lengthFits]
  refine ⟨fun hpass => ?taken, fun hquiet hstart => ⟨fun hno => ?noSession, fun hfail => ?failsafe,
    fun hact hload => ?loading⟩⟩
  case taken =>
    refine (execSetFilterClasses_passes hpass hv).trans ?_
    rw [settleTimesBytes_eq s.settleTimes]
  case noSession =>
    exact execSetFilterClasses_gated hquiet
      (gate_refused_session hstart hkind hlength (by rw [hno]; rfl))
  case failsafe =>
    exact execSetFilterClasses_gated hquiet
      (gate_refused_session hstart hkind hlength (by rw [hfail]; rfl))
  case loading =>
    exact execSetFilterClasses_gated hquiet
      (gate_refused_loading hstart hkind hlength (by rw [hact]; rfl) hload rfl)

end Sys2Proof.Machine
end

/-! ### The CHECK of a frame: the CRC byte by byte and bit by bit, and its two bytes (R174) -/

section
namespace Sys2Proof.Machine

/-- The register's step is linear: feeding a word in with the register takes in the word's top bit, and the rest
of the word moves up, to be taken in by the steps after it. -/
theorem crcBit_xor (r x : BitVec 16) : crcBit (r ^^^ x) = shiftIn r x.msb ^^^ (x <<< 1) := by
  unfold crcBit shiftIn
  rw [BitVec.msb_xor, BitVec.shiftLeft_xor_distrib]
  by_cases hmsb : r.msb = x.msb
  · simp [hmsb]
  · have htop : (r.msb ^^ x.msb) = true := by simpa using hmsb
    rw [if_pos htop, if_neg hmsb]
    ac_rfl

/-- A byte fed in at the top of the register is its 8 bits shifted in, most significant first. -/
theorem crcByte_eq_foldl_shiftIn (r : BitVec 16) (b : Byte) :
    crcByte r b = (bitsOf b).foldl shiftIn r := by
  simp only [crcByte, crcBit_xor]
  simp [bitsOf, ← BitVec.shiftLeft_add, BitVec.msb_eq_getLsbD_last]

theorem crc_eq_serialCrc (bs : List Byte) : crc bs = serialCrc bs := by
  rw [crc, serialCrc, List.foldl_flatMap, funext₂ crcByte_eq_foldl_shiftIn]

/-- A word is its high byte before its low byte. -/
theorem append_eq_iff_extractLsb' (c : BitVec 16) (high low : Byte) :
    high ++ low = c ↔ c.extractLsb' 8 8 = high ∧ c.extractLsb' 0 8 = low := by
  constructor
  · rintro rfl
    exact ⟨BitVec.extractLsb'_append_eq_left, BitVec.extractLsb'_append_eq_right⟩
  · rintro ⟨rfl, rfl⟩
    exact BitVec.extractLsb'_append_extractLsb' (w := 8) (len := 8)

/-- Two bytes are the CHECK of a run of bytes when, high byte first, they are its CRC (R174). -/
theorem checkBytes_eq_iff (bs : List Byte) (high low : Byte) :
    Frame.checkBytes bs = [high, low] ↔ high ++ low = serialCrc bs := by
  rw [← crc_eq_serialCrc, append_eq_iff_extractLsb']
  simp [Frame.checkBytes]

/-- A frame as it is sent ends in the CHECK of the bytes from LEN through the last byte of BODY (R173, R174). -/
theorem exists_bytes_eq_checked_append (f : Frame) : ∃ high low : Byte,
    f.bytes = 0xC3 :: f.checked ++ [high, low] ∧ high ++ low = serialCrc f.checked := by
  refine ⟨(crc f.checked).extractLsb' 8 8, (crc f.checked).extractLsb' 0 8, rfl, ?_⟩
  exact (checkBytes_eq_iff f.checked _ _).mp rfl

/-- A received frame passes when its last two bytes are the CHECK of the bytes between them and SYNC (R174, R177). -/
theorem ofBytes_append_check (sync len seq kind high low : Byte) (body : List Byte) :
    Frame.ofBytes (sync :: len :: seq :: kind :: body ++ [high, low]) =
      if high ++ low = serialCrc (len :: seq :: kind :: body) then some ⟨seq, kind, body⟩ else none := by
  simp [Frame.ofBytes, eq_comm (a := [high, low]), checkBytes_eq_iff]

/-- The value that R174 gives for the nine characters "123456789". -/
theorem serialCrc_nineDigits :
    serialCrc [0x31, 0x32, 0x33, 0x34, 0x35, 0x36, 0x37, 0x38, 0x39] = 0x29B1#16 := by
  simp [serialCrc, bitsOf, shiftIn, BitVec.msb_eq_decide]

/-- Settles O7: the byte-wise CRC is the bit-wise one, its value for "123456789" is computed, and the CHECK of a
frame sent or received is that CRC. -/
theorem checkIsTheCrc : Obligations.CheckIsTheCrc :=
  ⟨crc_eq_serialCrc, serialCrc_nineDigits, exists_bytes_eq_checked_append, ofBytes_append_check 0xC3⟩

end Sys2Proof.Machine
end

/-! ### Leaving the schedule: the entries that a leaving takes with it (R76, R103, R104) -/

section
set_option Elab.async false
namespace Sys2Proof.Machine

/-- A dependent is in WAITING_PRED with a chain on the id (R102). -/
theorem Entry.waitsFor_iff (e : Entry) (id : Nat) : e.waitsFor id = true ↔
    e.state = .waitingPred ∧ ∃ c ∈ e.action.chain, c.predecessor = id := by
  unfold Entry.waitsFor
  cases e.state <;> cases e.action.chain <;> simp

/-- An entry has one predecessor. -/
theorem Entry.waitsFor_unique {e : Entry} {a b : Nat} (ha : e.waitsFor a = true)
    (hb : e.waitsFor b = true) : a = b := by
  obtain ⟨-, c, hc, rfl⟩ := (e.waitsFor_iff a).mp ha
  obtain ⟨-, c', hc', rfl⟩ := (e.waitsFor_iff b).mp hb
  rw [Option.mem_def] at hc hc'
  rw [Option.some.inj (hc.symm.trans hc')]

/-! #### Several leavings -/

theorem lastSixteen_append (a b : List OutcomeRecord) :
    lastSixteen (lastSixteen a ++ b) = lastSixteen (a ++ b) := by
  unfold lastSixteen
  by_cases h : a.length ≤ 16
  · rw [Nat.sub_eq_zero_of_le h, List.drop_zero]
  · have hsplit : a.drop (a.length - 16) ++ b = (a ++ b).drop (a.length - 16) :=
      (List.drop_append_of_le_length (by omega)).symm
    rw [hsplit, List.drop_drop]
    congr 1
    simp only [List.length_drop, List.length_append]; omega

theorem lastSixteen_length (rs : List OutcomeRecord) : (lastSixteen rs).length ≤ 16 := by
  simp only [lastSixteen, List.length_drop]; omega

/-- A list within its bound loses nothing. -/
theorem lastSixteen_of_length_le {rs : List OutcomeRecord} (h : rs.length ≤ 16) : lastSixteen rs = rs := by
  rw [lastSixteen, Nat.sub_eq_zero_of_le h, List.drop_zero]

section
variable (s : State) (ls ms : List (Entry × EntryOutcome))

@[simp] theorem State.left_now : (s.left ls).now = s.now := by simp only [State.left]
@[simp] theorem State.left_slots : (s.left ls).slots = s.slots := by simp only [State.left]
@[simp] theorem State.left_session : (s.left ls).session = s.session := by simp only [State.left]
@[simp] theorem State.left_store : (s.left ls).store = s.store := by simp only [State.left]
@[simp] theorem State.left_journal : (s.left ls).journal = s.journal := by simp only [State.left]
@[simp] theorem State.left_entries : (s.left ls).schedule.entries =
    s.schedule.entries.filter fun x => ls.all fun l => decide (l.1.action.id ≠ x.action.id) := by
  simp only [State.left]

/-- Leavings after leavings are leavings one after another. -/
theorem State.left_left : (s.left ls).left ms = s.left (ls ++ ms) := by
  have hrec : (s.left ls).recordOf = s.recordOf := by funext x; simp only [State.recordOf, State.left_now]
  rw [State.left, hrec]
  simp only [State.left, List.filter_filter, List.all_append, List.map_append, List.filter_append,
    List.foldl_append, List.countP_append, Fin.getElem_fin, Vector.getElem_ofFn, Nat.sub_sub,
    State.mk.injEq, Schedule.mk.injEq, true_and, and_true]
  refine ⟨⟨?_, ?_⟩, ?_⟩
  · congr 1; funext x; exact Bool.and_comm _ _
  · rw [lastSixteen_append, List.append_assoc]
  · split <;> rfl

end

/-! #### The chains of a lawful schedule -/

/-- Every entry in WAITING_PRED stands behind its predecessor: `rank` is a number that grows along the chains,
below the length of the schedule (R102). -/
structure Chained (entries : List Entry) (rank : Entry → Nat) : Prop where
  nodup : entries.Nodup
  distinct : ∀ a ∈ entries, ∀ b ∈ entries, a.action.id = b.action.id → a = b
  bounded : ∀ a ∈ entries, rank a < entries.length
  grows : ∀ a ∈ entries, ∀ id, a.waitsFor id = true → ∃ p ∈ entries, p.action.id = id ∧ rank p < rank a

/-- In a lawful schedule the place of an entry is such a number. -/
theorem Schedule.lawful_chained {c : Schedule} (h : c.lawful) :
    Chained c.entries (c.entries.idxOf ·) := by
  obtain ⟨-, hnodup, hpred⟩ := h
  have hinj : ∀ a ∈ c.entries, ∀ b ∈ c.entries, a.action.id = b.action.id → a = b :=
    fun a ha b hb hab => List.inj_on_of_nodup_map hnodup ha hb hab
  have hnd : c.entries.Nodup := hnodup.of_map
  refine ⟨hnd, hinj, fun a ha => List.idxOf_lt_length_of_mem ha, fun a ha id hw => ?_⟩
  obtain ⟨hstate, ch, hch, rfl⟩ := (a.waitsFor_iff id).mp hw
  obtain ⟨earlier, later, hsplit⟩ := List.append_of_mem ha
  obtain ⟨ch', p, hch', hp, hid, -⟩ := hpred earlier later a hsplit hstate
  rw [Option.mem_def, hch'] at hch
  obtain rfl := Option.some.inj hch
  have hne : a ∉ earlier := by
    rw [hsplit] at hnd
    exact fun hmem => (List.nodup_append.mp hnd).2.2 a hmem a (by simp) rfl
  refine ⟨p, hsplit ▸ List.mem_append_left _ hp, hid, ?_⟩
  rw [hsplit, List.idxOf_append_of_mem hp, List.idxOf_append_of_notMem hne]
  have := List.idxOf_lt_length_of_mem hp
  omega

/-- An entry of the chain below an id: it waits for the id, or for an entry below it. -/
inductive Below (entries : List Entry) (id : Nat) : Entry → Prop
  | direct {x : Entry} : x ∈ entries → x.waitsFor id = true → Below entries id x
  | further {x d : Entry} : Below entries id d → x ∈ entries → x.waitsFor d.action.id = true →
      Below entries id x

section
variable {entries : List Entry} {rank : Entry → Nat} {id : Nat}

theorem Below.mem {x : Entry} (h : Below entries id x) : x ∈ entries := by
  cases h <;> assumption

/-- What is below a dependent of an id is below the id. -/
theorem Below.trans {d x : Entry} (h : Below entries d.action.id x) (hd : Below entries id d) :
    Below entries id x := by
  induction h with
  | direct hx hw => exact .further hd hx hw
  | further _ hx hw ih => exact .further ih hx hw

/-- The rank grows below an entry. -/
theorem Below.rank_lt (hc : Chained entries rank) {p x : Entry} (hp : p ∈ entries)
    (h : Below entries p.action.id x) : rank p < rank x := by
  induction h with
  | direct hx hw =>
    obtain ⟨q, hq, hid, hlt⟩ := hc.grows _ hx _ hw
    rwa [← hc.distinct q hq p hp hid]
  | further hd hx hw ih =>
    obtain ⟨q, hq, hid, hlt⟩ := hc.grows _ hx _ hw
    rw [hc.distinct q hq _ hd.mem hid] at hlt
    exact ih.trans hlt

/-- No dependent of an id is below another dependent of it. -/
theorem Below.not_sibling (hc : Chained entries rank) {a b : Entry} (ha : a ∈ entries)
    (hwa : a.waitsFor id = true) (hwb : b.waitsFor id = true) :
    ¬ Below entries a.action.id b := by
  intro h
  obtain ⟨p, hp, hid, hlt⟩ := hc.grows a ha id hwa
  cases h with
  | direct _ hw =>
    have := Entry.waitsFor_unique hw hwb
    rw [hc.distinct a ha p hp (this.trans hid.symm)] at hlt
    exact lt_irrefl _ hlt
  | further hd _ hw =>
    have hdp : _ = p := hc.distinct _ hd.mem p hp ((Entry.waitsFor_unique hw hwb).trans hid.symm)
    have := hd.rank_lt hc ha
    rw [hdp] at this
    exact lt_asymm hlt this

/-- An entry below two entries puts one of them below the other, unless they are one. -/
theorem Below.linear (hc : Chained entries rank) {a b x : Entry} (ha : a ∈ entries) (hb : b ∈ entries)
    (hxa : Below entries a.action.id x) (hxb : Below entries b.action.id x) :
    a = b ∨ Below entries a.action.id b ∨ Below entries b.action.id a := by
  induction hxb with
  | direct hx hwb =>
    cases hxa with
    | direct _ hwa => exact .inl (hc.distinct a ha b hb (Entry.waitsFor_unique hwa hwb))
    | further hd _ hwd =>
      rw [← hc.distinct _ hd.mem b hb (Entry.waitsFor_unique hwd hwb)]
      exact .inr (.inl hd)
  | further hd hx hw ih =>
    cases hxa with
    | direct _ hwa =>
      rw [hc.distinct a ha _ hd.mem (Entry.waitsFor_unique hwa hw)]
      exact .inr (.inr hd)
    | further hd' _ hw' =>
      rw [hc.distinct _ hd'.mem _ hd.mem (Entry.waitsFor_unique hw' hw)] at hd'
      exact ih hd'

/-- The chains below two dependents of one id have no entry in common. -/
theorem Below.disjoint (hc : Chained entries rank) {a b x y : Entry} (ha : a ∈ entries)
    (hb : b ∈ entries) (hwa : a.waitsFor id = true) (hwb : b.waitsFor id = true) (hab : a ≠ b)
    (hx : x = a ∨ Below entries a.action.id x) (hy : y = b ∨ Below entries b.action.id y) : x ≠ y := by
  rintro rfl
  rcases hx with rfl | hx <;> rcases hy with rfl | hy
  · exact hab rfl
  · exact Below.not_sibling hc hb hwb hwa hy
  · exact Below.not_sibling hc ha hwa hwb hx
  · rcases hx.linear hc ha hb hy with rfl | h | h
    · exact hab rfl
    · exact Below.not_sibling hc ha hwa hwb h
    · exact Below.not_sibling hc hb hwb hwa h

/-- What leaves ORPHANED after an id is below it. -/
theorem below_of_mem_orphansOf {depth : Nat} {l : Entry × EntryOutcome}
    (h : l ∈ orphansOf depth entries id) : Below entries id l.1 := by
  induction depth generalizing id with
  | zero => simp [orphansOf] at h
  | succ depth ih =>
    simp only [orphansOf, List.mem_flatMap, List.mem_filter, List.mem_cons] at h
    obtain ⟨d, ⟨hd, hw⟩, rfl | h⟩ := h
    · exact .direct hd hw
    · exact (ih h).trans (.direct hd hw)

/-- A chain is no longer than the ranks allow: further depth adds nothing. -/
theorem orphansOf_succ (hc : Chained entries rank) {depth low : Nat}
    (hlow : ∀ x ∈ entries, x.waitsFor id = true → low ≤ rank x) (hd : entries.length ≤ depth + low) :
    orphansOf (depth + 1) entries id = orphansOf depth entries id := by
  induction depth generalizing id low with
  | zero =>
    have : entries.filter (·.waitsFor id) = [] := by
      rw [List.filter_eq_nil_iff]
      intro x hx hw
      have := hlow x hx hw
      have := hc.bounded x hx
      omega
    simp [orphansOf, this]
  | succ depth ih =>
    rw [orphansOf, orphansOf]
    refine List.flatMap_congr fun d hdm => ?_
    rw [List.mem_filter] at hdm
    rw [ih (low := low + 1) _ (by omega)]
    intro x hx hw
    have := (Below.direct hx hw).rank_lt hc hdm.1
    have := hlow d hdm.1 hdm.2
    omega

end

/-! #### The leaving itself -/

/-- An entry that leaves other than APPLIED takes the chain below it with it, depth first (R104), from a state whose
schedule still holds that chain. -/
theorem State.leaveTree_eq {entries : List Entry} {rank : Entry → Nat} (hc : Chained entries rank)
    (depth : Nat) (s : State) (p : Entry → Bool) (e : Entry) (o : EntryOutcome) (ho : o ≠ .applied)
    (hs : s.schedule.entries = entries.filter p)
    (hp : ∀ x, Below entries e.action.id x → p x = true) :
    s.leaveTree (depth + 1) e o = s.left ((e, o) :: orphansOf depth entries e.action.id) := by
  induction depth generalizing s p e o with
  | zero =>
    have hid : ∀ (ds : List Entry) (t : State),
        ds.foldl (fun s d => s.leaveTree 0 d (.orphaned e.action.id)) t = t := by
      intro ds; induction ds with
      | nil => intro t; rfl
      | cons d ds ih => intro t; exact ih t
    simp only [orphansOf, ← State.leaveAlone_eq]
    cases o <;> first | exact absurd rfl ho | exact hid _ _
  | succ depth ih =>
    set id := e.action.id with hidef
    have hstep : s.leaveTree (depth + 2) e o =
        ((s.left [(e, o)]).schedule.dependents id).foldl
          (fun s d => s.leaveTree (depth + 1) d (.orphaned id)) (s.left [(e, o)]) := by
      rw [← State.leaveAlone_eq]
      cases o <;> first | exact absurd rfl ho | rfl
    have hself : ∀ x, Below entries id x → id ≠ x.action.id := by
      intro x hx heq
      have hlt : ∀ y ∈ entries, y.action.id = id → rank y < rank x := fun y hy hyid =>
        (show Below entries y.action.id x from hyid ▸ hx).rank_lt hc hy
      exact lt_irrefl _ (hlt x hx.mem heq.symm)
    have hdep : (s.left [(e, o)]).schedule.dependents id = entries.filter (·.waitsFor id) := by
      rw [Schedule.dependents, State.left_entries, hs, List.filter_filter, List.filter_filter]
      refine List.filter_congr fun x hx => ?_
      cases hw : x.waitsFor id with
      | false => rfl
      | true => simp [hp x (.direct hx hw), ← hidef, hself x (.direct hx hw)]
    have fold : ∀ (ds : List Entry) (done : List (Entry × EntryOutcome)), ds.Nodup →
        (∀ d ∈ ds, d ∈ entries ∧ d.waitsFor id = true) →
        (∀ d ∈ ds, ∀ l ∈ done, ∀ x, Below entries d.action.id x → l.1.action.id ≠ x.action.id) →
        ds.foldl (fun s d => s.leaveTree (depth + 1) d (.orphaned id)) (s.left done) =
          s.left (done ++ ds.flatMap fun d => (d, .orphaned id) :: orphansOf depth entries d.action.id) := by
      intro ds
      induction ds with
      | nil => intro done _ _ _; simp
      | cons d ds ihd =>
        intro done hnd hmem hdis
        obtain ⟨hdn, hnd⟩ := List.nodup_cons.mp hnd
        obtain ⟨hd, hwd⟩ := hmem d (by simp)
        have htree : (s.left done).leaveTree (depth + 1) d (.orphaned id) =
            (s.left done).left ((d, .orphaned id) :: orphansOf depth entries d.action.id) := by
          refine ih (s.left done)
            (fun x => (done.all fun l => decide (l.1.action.id ≠ x.action.id)) && p x) d _ (by simp)
            (by rw [State.left_entries, hs, List.filter_filter]) fun x hx => ?_
          simp only [Bool.and_eq_true, List.all_eq_true, decide_eq_true_eq]
          exact ⟨fun l hl => hdis d (by simp) l hl x hx, hp x (hx.trans (.direct hd hwd))⟩
        rw [List.foldl_cons, htree, State.left_left, ihd _ hnd (fun b hb => hmem b (by simp [hb]))]
        · simp
        · intro b hb l hl x hx
          rcases List.mem_append.mp hl with hl | hl
          · exact hdis b (by simp [hb]) l hl x hx
          · obtain ⟨hbe, hwb⟩ := hmem b (by simp [hb])
            have hl' : l.1 = d ∨ Below entries d.action.id l.1 :=
              (List.mem_cons.mp hl).imp (fun h => by rw [h]) below_of_mem_orphansOf
            have hle : l.1 ∈ entries := by
              rcases hl' with h | h
              · rwa [h]
              · exact h.mem
            exact fun heq => Below.disjoint hc hd hbe hwd hwb (fun h => hdn (h ▸ hb)) hl' (.inr hx)
              (hc.distinct _ hle _ hx.mem heq)
    rw [hstep, hdep, fold _ _ (hc.nodup.filter _) (fun d hd => List.mem_filter.mp hd)]
    · rfl
    · intro d hd l hl x hx
      rw [List.mem_filter] at hd
      rw [List.mem_singleton.mp hl]
      exact hself x (hx.trans (.direct hd.1 hd.2))

/-- A queued entry that leaves other than APPLIED takes the chain below it with it (R104). -/
theorem State.leave_eq_left {s : State} {queued e : Entry} {o : EntryOutcome} (hl : s.schedule.lawful)
    (hq : queued ∈ s.schedule.entries) (ho : o ≠ .applied) :
    s.leave e o = s.left ((e, o) ::
      orphansOf s.schedule.entries.length s.schedule.entries e.action.id) := by
  have hc := Schedule.lawful_chained hl
  obtain ⟨n, hn⟩ : ∃ n, s.schedule.entries.length = n + 1 :=
    ⟨_, (Nat.succ_pred_eq_of_pos (List.length_pos_of_mem hq)).symm⟩
  have htree := State.leaveTree_eq hc n s (fun _ => true) e o ho (by simp) fun _ _ => rfl
  have hdeep : orphansOf (n + 1) s.schedule.entries e.action.id =
      orphansOf n s.schedule.entries e.action.id := by
    refine orphansOf_succ hc (low := 1) (fun x hx hw => ?_) (by omega)
    obtain ⟨p, -, -, hlt⟩ := hc.grows x hx _ hw
    omega
  rw [State.leave, hn, htree, hdeep]

/-- A dependent made TIMED, as the statements say it (R103). -/
theorem Entry.release_eq (d : Entry) (id time : Nat) :
    (if d.waitsFor id then d.release time else d) =
      match d.state, d.action.chain with
      | .waitingPred, some c => if c.predecessor = id then { d with state := .timed (time + c.offset) } else d
      | _, _ => d := by
  unfold Entry.waitsFor Entry.release
  cases d.state <;> cases d.action.chain <;> simp

/-- A queued entry that leaves APPLIED makes its dependents TIMED (R103). -/
theorem State.leave_applied {s : State} {queued e : Entry} (hq : queued ∈ s.schedule.entries) :
    s.leave e .applied = { s.left [(e, .applied)] with
      schedule := (s.left [(e, .applied)]).schedule.releaseDependents e.action.id s.now } := by
  obtain ⟨n, hn⟩ : ∃ n, s.schedule.entries.length = n + 1 :=
    ⟨_, (Nat.succ_pred_eq_of_pos (List.length_pos_of_mem hq)).symm⟩
  rw [State.leave, hn, State.leaveTree, State.leaveAlone_eq]
  simp only [State.left_now]

/-- Settles O33, from what a leaving other than APPLIED takes with it, by the depth of the chain, and from the
dependents that an APPLIED entry makes TIMED. -/
theorem leavingTheSchedule : Obligations.LeavingTheSchedule := by
  refine ⟨Entry.waitsFor_iff, fun s queued e hl hq _ => ⟨fun o ho => State.leave_eq_left hl hq ho, ?_⟩⟩
  rw [State.leave_applied hq, Schedule.releaseDependents]
  simp only [Entry.release_eq] <;> rfl

end Sys2Proof.Machine
end

/-! ### The whole schedule leaving, and a failsafe entry (R84, R85, R144) -/

section
set_option Elab.async false
namespace Sys2Proof.Machine

/-- A new entry's place leaves the others as they stand (R71). -/
theorem insertInOrder_perm (e : Entry) (l : List Entry) : (insertInOrder e l).Perm (e :: l) := by
  induction l with
  | nil => exact List.Perm.refl _
  | cons x xs ih =>
    unfold insertInOrder
    split
    · exact List.Perm.refl _
    · exact (ih.cons x).trans (List.Perm.swap e x xs)

/-- Schedule order has every entry once (R71). -/
theorem scheduleOrder_perm (es : List Entry) : (scheduleOrder es).Perm es := by
  induction es with
  | nil => exact List.Perm.refl _
  | cons e es ih => exact (insertInOrder_perm e _).trans (ih.cons e)

@[simp] theorem scheduleOrder_eq_nil (es : List Entry) : scheduleOrder es = [] ↔ es = [] :=
  ⟨fun h => List.nil_perm.mp (h ▸ scheduleOrder_perm es), fun h => by rw [h]; rfl⟩

/-- The outcome list after the whole schedule has left with one outcome (R78, R84, R85). -/
def State.outcomesAfterAll (s : State) (o : EntryOutcome) : List OutcomeRecord :=
  if s.schedule.entries = [] then s.schedule.outcomes
  else lastSixteen (s.schedule.outcomes ++
    (scheduleOrder s.schedule.entries).map fun e => ⟨e.action.id, o, s.now, e.applied, e.skipped⟩)

/-- On an outcome list within its bound an empty schedule is no exception. -/
theorem State.outcomesAfterAll_eq {s : State} (h : s.schedule.outcomes.length ≤ 16) (o : EntryOutcome) :
    s.outcomesAfterAll o = lastSixteen (s.schedule.outcomes ++
      (scheduleOrder s.schedule.entries).map fun e => ⟨e.action.id, o, s.now, e.applied, e.skipped⟩) := by
  unfold State.outcomesAfterAll
  split
  · rename_i he
    rw [he, scheduleOrder, List.foldr_nil, List.map_nil, List.append_nil, lastSixteen_of_length_le h]
  · rfl

theorem State.outcomesAfterAll_length {s : State} (h : s.schedule.outcomes.length ≤ 16)
    (o : EntryOutcome) : (s.outcomesAfterAll o).length ≤ 16 := by
  rw [State.outcomesAfterAll_eq h]; exact lastSixteen_length _

/-- Leavings by themselves, one after another. -/
theorem State.foldl_leaveAlone_left (o : EntryOutcome) (es : List Entry) (s : State)
    (done : List (Entry × EntryOutcome)) :
    es.foldl (fun s e => s.leaveAlone e o) (s.left done) = s.left (done ++ es.map fun e => (e, o)) := by
  induction es generalizing done with
  | nil => simp
  | cons e es ih => rw [List.foldl_cons, State.leaveAlone_eq, State.left_left, ih]; simp

/-- The whole schedule leaves without a notice: ABORTED, or after a CLOSE has ended the session (R79, R84, R85,
R182). -/
theorem State.leaveAll_eq {s : State} {o : EntryOutcome}
    (h : o = .aborted ∨ s.session.state = .noSession) :
    s.leaveAll o = { s with
      lines := Vector.ofFn fun i =>
        { s.lines[i] with refs := s.lines[i].refs - s.schedule.entries.countP (·.action.names i) }
      schedule := { s.schedule with entries := [], outcomes := s.outcomesAfterAll o } } := by
  unfold State.leaveAll State.outcomesAfterAll
  cases hes : s.schedule.entries with
  | nil =>
    have hlines : (Vector.ofFn fun i : LineNo => s.lines[i]) = s.lines := by ext i hi; simp
    simp only [scheduleOrder, List.foldr_nil, List.foldl_nil, List.countP_nil, Nat.sub_zero, if_true,
      hlines]
    rw [← hes]
  | cons e es =>
    rw [← hes, if_neg (by simp [hes])]
    obtain ⟨x, xs, hx⟩ := List.exists_cons_of_ne_nil
      (mt (scheduleOrder_eq_nil s.schedule.entries).mp (by simp [hes]))
    have hperm := scheduleOrder_perm s.schedule.entries
    rw [hx, List.foldl_cons, State.leaveAlone_eq, State.foldl_leaveAlone_left,
      show [(x, o)] ++ xs.map (fun e => (e, o)) = (scheduleOrder s.schedule.entries).map (fun e => (e, o)) by
        rw [hx]; rfl, ← hx]
    have hentries : (s.schedule.entries.filter fun y =>
        ((scheduleOrder s.schedule.entries).map fun e => (e, o)).all
          fun l => decide (l.1.action.id ≠ y.action.id)) = [] := by
      rw [List.filter_eq_nil_iff]
      intro y hy
      simp only [List.all_map, List.all_eq_true, Function.comp, decide_eq_true_eq]
      exact fun hall => hall y ((mem_scheduleOrder _ _).mpr hy) rfl
    have hcount : ∀ i, ((scheduleOrder s.schedule.entries).map fun e => (e, o)).countP
        (·.1.action.names i) = s.schedule.entries.countP (·.action.names i) := by
      intro i
      rw [List.countP_map]
      exact hperm.countP_eq _
    have hlink : (if s.session.state = .noSession then s.link
        else (((scheduleOrder s.schedule.entries).map fun e => (e, o)).filter
            fun x => x.1.action.notify && decide (x.2 ≠ .aborted)).foldl
          (fun link x => link.enqueue (.actionDone (s.recordOf x))) s.link) = s.link := by
      rcases h with rfl | h
      · have hnone : (((scheduleOrder s.schedule.entries).map fun e => (e, EntryOutcome.aborted)).filter
            fun x => x.1.action.notify && decide (x.2 ≠ .aborted)) = [] := by
          rw [List.filter_eq_nil_iff]
          simp
        rw [hnone, List.foldl_nil, ite_self]
      · rw [if_pos h]
    unfold State.left
    rw [hentries, hlink]
    simp only [hcount, List.map_map]
    rfl

/-- The last part of a failsafe entry changes the store, the link and the counter of free values alone (R144,
R165). -/
theorem State.abortAndAnnounce_eq {s : State} (h : s.session.state ≠ .noSession) (c : FailsafeCause) :
    ∃ link ∈ s.entryLinks c, s.abortAndAnnounce c = { s with
      store :=
        match s.store.operation with
        | .loading p _ => { s.store with
            operation := .none, lastResult := some ⟨.load, some p, .aborted, s.now⟩ }
        | _ => s.store
      freeIx := if s.store.operation.isLoading then s.freeIx + 1 else s.freeIx
      link := link } := by
  unfold State.abortAndAnnounce State.entryLinks
  cases hop : s.store.operation with
  | loading p started =>
    simp only [Operation.isLoading, if_true]
    by_cases hch : Config.choice s.freeIx % 2 = 0
    · refine ⟨_, List.mem_cons_self, ?_⟩
      simp [hch, State.abortLoad, hop, State.announceFailsafe, State.finishStore, State.enqueue_eq, h,
        State.drawn]
    · refine ⟨_, List.mem_cons_of_mem _ List.mem_cons_self, ?_⟩
      simp [hch, State.abortLoad, hop, State.announceFailsafe, State.finishStore, State.enqueue_eq, h,
        State.drawn]
  | none | committing | erasing | bootWrite =>
    refine ⟨_, List.mem_cons_self, ?_⟩
    simp [Operation.isLoading, State.announceFailsafe, State.enqueue_eq, h]

/-- The part at a failsafe entry before the LOAD in flight is aborted and the entry is announced. -/
def State.sweptForFailsafe (s : State) (c : FailsafeCause) : State :=
  { s with
    session := s.session.enterFailsafe c s.now
    lines := (s.enteredFailsafe c).lines
    schedule := { s.schedule with entries := [], outcomes := s.outcomesAfterAll .aborted }
    slots := Vector.ofFn fun k => s.slots[k].standDown
    store := { s.store with staging := s.store.staging.discard } }

theorem State.enterFailsafe_swept (s : State) (c : FailsafeCause) :
    s.enterFailsafe c = (s.sweptForFailsafe c).abortAndAnnounce c := by
  have hline : ∀ i : LineNo, ({ s.lines[i].enterFailsafe with
      refs := s.lines[i].refs - s.schedule.entries.countP (·.action.names i) } : Line) =
      { s.lines[i] with
        claims :=
          { s.lines[i].claims with
            failsafe :=
              if s.lines[i].isOutput then s.lines[i].forcedClaim else s.lines[i].claims.failsafe
            pin := none, trigger := none, schedule := none }
        refs := s.lines[i].refs - s.schedule.entries.countP (·.action.names i) } := by
    intro i
    rw [← Line.enterFailsafe_claims]; rfl
  unfold State.enterFailsafe State.sweptForFailsafe State.enteredFailsafe
  simp only [State.leaveAll_eq (o := .aborted) (.inl rfl), ← hline]
  simp [State.discardStaging, State.standDownAll, State.mapLines, State.outcomesAfterAll,
    Line.enterFailsafe]

/-- A failsafe entry, as the statements say it, but for the outcome list (R144). -/
theorem State.enterFailsafe_eq (s : State) (c : FailsafeCause) :
    ∃ link ∈ s.entryLinks c, s.enterFailsafe c = { s.enteredFailsafe c with
      schedule := { s.schedule with entries := [], outcomes := s.outcomesAfterAll .aborted }
      link := link } := by
  obtain ⟨link, hl, heq⟩ := State.abortAndAnnounce_eq (s := s.sweptForFailsafe c)
    (by simp [State.sweptForFailsafe, Session.enterFailsafe]) c
  have hlinks : (s.sweptForFailsafe c).entryLinks c = s.entryLinks c := by
    simp only [State.entryLinks, State.sweptForFailsafe]
  refine ⟨link, hlinks ▸ hl, ?_⟩
  rw [State.enterFailsafe_swept, heq]
  unfold State.enteredFailsafe
  cases hop : s.store.operation <;>
    simp [State.sweptForFailsafe, State.enteredFailsafe, Session.enterFailsafe, FailsafeRecord.entry,
      Operation.isLoading, hop, Slot.standDown]

/-- A failsafe entry, as the statements say it (R144). -/
theorem State.enterFailsafe_entered {s : State} (h : s.schedule.outcomes.length ≤ 16) (c : FailsafeCause) :
    ∃ link ∈ s.entryLinks c, s.enterFailsafe c = { s.enteredFailsafe c with link := link } := by
  obtain ⟨link, hl, heq⟩ := State.enterFailsafe_eq s c
  refine ⟨link, hl, ?_⟩
  rw [heq, State.outcomesAfterAll_eq h]
  rfl

end Sys2Proof.Machine
end

/-! ### The schedule after leavings, and the cancel of a group (R82, R83, R104) -/

section
set_option Elab.async false
namespace Sys2Proof.Machine

/-- No leaving changes nothing of a state whose outcome list is within its bound. -/
theorem State.left_nil {s : State} (h : s.schedule.outcomes.length ≤ 16) : s.left [] = s := by
  unfold State.left
  simp [lastSixteen_of_length_le h]

section
variable {entries : List Entry} {rank : Entry → Nat} {id : Nat}

theorem mem_orphansOf_further {depth : Nat} {d x : Entry} {o : EntryOutcome}
    (h : (d, o) ∈ orphansOf depth entries id) (hx : x ∈ entries) (hw : x.waitsFor d.action.id = true) :
    (x, .orphaned d.action.id) ∈ orphansOf (depth + 1) entries id := by
  induction depth generalizing id with
  | zero => simp [orphansOf] at h
  | succ depth ih =>
    rw [orphansOf, List.mem_flatMap] at h ⊢
    obtain ⟨a, ha, h⟩ := h
    refine ⟨a, ha, List.mem_cons_of_mem _ ?_⟩
    rcases List.mem_cons.mp h with heq | h
    · obtain ⟨rfl, -⟩ := Prod.mk.inj heq
      rw [orphansOf, List.mem_flatMap]
      exact ⟨x, List.mem_filter.mpr ⟨hx, hw⟩, List.mem_cons_self⟩
    · exact ih h

/-- A greater depth loses no entry. -/
theorem orphansOf_subset_succ (depth : Nat) :
    orphansOf depth entries id ⊆ orphansOf (depth + 1) entries id := by
  induction depth generalizing id with
  | zero => simp [orphansOf]
  | succ depth ih =>
    intro l h
    rw [orphansOf, List.mem_flatMap] at h ⊢
    obtain ⟨a, ha, h⟩ := h
    exact ⟨a, ha, (List.mem_cons.mp h).elim (fun h => h ▸ List.mem_cons_self)
      fun h => List.mem_cons_of_mem _ (ih h)⟩

/-- Everything below an id leaves with it: no chain is longer than the schedule (R104). -/
theorem exists_mem_orphansOf (hc : Chained entries rank) {x : Entry} (h : Below entries id x) :
    ∃ o, (x, o) ∈ orphansOf entries.length entries id := by
  have hdepth : ∀ n k, orphansOf n entries id ⊆ orphansOf (n + k) entries id := by
    intro n k
    induction k with
    | zero => exact fun _ h => h
    | succ k ih => exact fun _ h => orphansOf_subset_succ (n + k) (ih h)
  have hstable : ∀ k, orphansOf (entries.length + k) entries id = orphansOf entries.length entries id := by
    intro k
    induction k with
    | zero => rfl
    | succ k ih =>
      rw [← Nat.add_assoc, orphansOf_succ hc (low := 0) (fun _ _ _ => Nat.zero_le _) (by omega), ih]
  obtain ⟨n, o, hn⟩ : ∃ n o, (x, o) ∈ orphansOf n entries id := by
    induction h with
    | direct hx hw =>
      refine ⟨1, .orphaned id, ?_⟩
      rw [orphansOf, List.mem_flatMap]
      exact ⟨_, List.mem_filter.mpr ⟨hx, hw⟩, List.mem_cons_self⟩
    | further _ hx hw ih =>
      obtain ⟨n, o, hn⟩ := ih
      exact ⟨n + 1, _, mem_orphansOf_further hn hx hw⟩
  refine ⟨o, ?_⟩
  have := hdepth n entries.length hn
  rwa [Nat.add_comm, hstable] at this

end

/-- What stands before an entry that a filter keeps. -/
theorem filter_eq_append_cons {α : Type} {l earlier later : List α} {p : α → Bool} {x : α}
    (h : l.filter p = earlier ++ x :: later) :
    ∃ before after, l = before ++ x :: after ∧ earlier = before.filter p := by
  induction l generalizing earlier with
  | nil => simp at h
  | cons a l ih =>
    cases hp : p a with
    | false =>
      rw [List.filter_cons_of_neg (by simp [hp])] at h
      obtain ⟨before, after, rfl, rfl⟩ := ih h
      exact ⟨a :: before, after, rfl, (List.filter_cons_of_neg (by simp [hp])).symm⟩
    | true =>
      rw [List.filter_cons_of_pos hp] at h
      cases earlier with
      | nil => exact ⟨[], l, by rw [(List.cons.inj h).1]; rfl, rfl⟩
      | cons b earlier =>
        obtain ⟨rfl, htail⟩ := List.cons.inj h
        obtain ⟨before, after, rfl, rfl⟩ := ih htail
        exact ⟨a :: before, after, rfl, (List.filter_cons_of_pos hp).symm⟩

/-- The laws of the schedule are kept where entries go of which no predecessor of a waiting entry is one. -/
theorem Schedule.lawful_filter {c d : Schedule} (h : c.lawful) {p : Entry → Bool}
    (hd : d.entries = c.entries.filter p)
    (hp : ∀ q ∈ c.entries, ∀ x ∈ c.entries, x.waitsFor q.action.id = true → p x = true → p q = true) :
    d.lawful := by
  obtain ⟨hlen, hnodup, hpred⟩ := h
  refine ⟨?_, ?_, fun earlier later x hsplit hx => ?_⟩
  · rw [hd]; exact (List.length_filter_le _ _).trans hlen
  · rw [hd]; exact hnodup.sublist (List.filter_sublist.map _)
  · rw [hd] at hsplit
    obtain ⟨before, after, hbefore, rfl⟩ := filter_eq_append_cons hsplit
    obtain ⟨ch, q, hch, hq, hid, hrep⟩ := hpred before after x hbefore hx
    have hxm : x ∈ c.entries ∧ p x = true := by
      rw [← List.mem_filter, hsplit]; simp
    refine ⟨ch, q, hch, List.mem_filter.mpr ⟨hq, ?_⟩, hid, hrep⟩
    exact hp q (hbefore ▸ List.mem_append_left _ hq) x hxm.1
      ((x.waitsFor_iff _).mpr ⟨hx, ch, hch, hid.symm⟩) hxm.2

/-- An entry that leaves with the chain below it leaves a lawful schedule. -/
theorem State.left_lawful {s : State} (h : s.schedule.lawful) (e : Entry) (o : EntryOutcome) :
    (s.left ((e, o) :: orphansOf s.schedule.entries.length s.schedule.entries e.action.id)).schedule.lawful := by
  have hc := Schedule.lawful_chained h
  refine Schedule.lawful_filter h (State.left_entries s _) fun q hq x hx hw hkeep => ?_
  by_contra hgone
  simp only [List.all_eq_true, decide_eq_true_eq, not_forall, not_not] at hgone hkeep
  obtain ⟨l, hl, hid⟩ := hgone
  have hbelow : Below s.schedule.entries e.action.id x := by
    rcases List.mem_cons.mp hl with rfl | hl
    · exact .direct hx (hid ▸ hw)
    · have hb := below_of_mem_orphansOf hl
      exact .further hb hx (hid ▸ hw)
  obtain ⟨o', hmem⟩ := exists_mem_orphansOf hc hbelow
  exact hkeep _ (List.mem_cons_of_mem _ hmem) rfl

theorem Schedule.find_some {c : Schedule} {id : Nat} {e : Entry} (h : c.find id = some e) :
    e ∈ c.entries ∧ e.action.id = id :=
  ⟨List.mem_of_find?_eq_some h, by simpa using List.find?_some h⟩

theorem Schedule.find_none {c : Schedule} {id : Nat} :
    c.find id = none ↔ ∀ e ∈ c.entries, e.action.id ≠ id := by
  simp [Schedule.find]

/-- The cancels of a group's entries in turn, as the statements say them (R82, R83). -/
theorem State.cancelQueued_foldl {s : State} (cause : CancelCause) (turns : List Entry)
    (done : List (Entry × EntryOutcome)) (ids : List Nat)
    (hlaw : (s.left done).schedule.lawful)
    (hturn : ∀ a ∈ turns, ∀ b ∈ (s.left done).schedule.entries, a.action.id = b.action.id → a = b) :
    (turns.map (·.action.id)).foldl (State.cancelQueued cause) (s.left done, ids) =
      (s.left (done ++ cancelTurns cause (s.left done).schedule.entries turns),
        ids ++ cancelledIds cause (cancelTurns cause (s.left done).schedule.entries turns)) := by
  induction turns generalizing done ids with
  | nil => simp [cancelTurns, cancelledIds]
  | cons e turns ih =>
    rw [List.map_cons, List.foldl_cons, cancelTurns]
    cases hfind : (s.left done).schedule.find e.action.id with
    | none =>
      have hany : ((s.left done).schedule.entries.any fun x => decide (x.action.id = e.action.id)) = false := by
        simpa using Schedule.find_none.mp hfind
      rw [if_neg (by rw [hany]; decide), State.cancelQueued]
      simp only [hfind]
      exact ih done ids hlaw fun a ha => hturn a (List.mem_cons_of_mem _ ha)
    | some e' =>
      obtain ⟨he', hid⟩ := Schedule.find_some hfind
      obtain rfl := hturn e List.mem_cons_self e' he' hid.symm
      have hany : ((s.left done).schedule.entries.any fun x => decide (x.action.id = e.action.id)) = true :=
        List.any_eq_true.mpr ⟨e, he', by simp⟩
      rw [if_pos hany, State.cancelQueued]
      simp only [hfind]
      rw [State.leave_eq_left hlaw he' (by simp), State.left_left]
      set gone := (e, EntryOutcome.cancelled cause) ::
        orphansOf (s.left done).schedule.entries.length (s.left done).schedule.entries e.action.id with hgone
      have hentries : (s.left (done ++ gone)).schedule.entries =
          (s.left done).schedule.entries.filter fun x =>
            gone.all fun l => decide (l.1.action.id ≠ x.action.id) := by
        rw [← State.left_left, State.left_entries]
      have hids : cancelledIds cause gone = [e.action.id] := by
        rw [hgone, cancelledIds, List.filter_cons_of_pos (by simp), List.filter_eq_nil_iff.mpr]
        · rfl
        · intro l hl
          have : ∀ (n id : Nat) (es : List Entry), ∀ l ∈ orphansOf n es id, ∃ p, l.2 = .orphaned p := by
            intro n
            induction n with
            | zero => simp [orphansOf]
            | succ n ihn =>
              intro id es l hl
              rw [orphansOf, List.mem_flatMap] at hl
              obtain ⟨d, -, hl⟩ := hl
              rcases List.mem_cons.mp hl with rfl | hl
              · exact ⟨id, rfl⟩
              · exact ihn _ _ _ hl
          obtain ⟨p, hp⟩ := this _ _ _ l hl
          simp [hp]
      rw [ih (done ++ gone) (ids ++ [e.action.id]), hentries]
      · simp [cancelledIds, ← hids]
      · rw [← State.left_left]
        exact State.left_lawful hlaw e _
      · intro a ha b hb
        rw [hentries] at hb
        exact hturn a (List.mem_cons_of_mem _ ha) b (List.mem_of_mem_filter hb)

/-- The cancel of a group, as the statements say it (R82, R83). -/
theorem State.cancelGroup_eq {s : State} (hlaw : s.schedule.lawful)
    (hout : s.schedule.outcomes.length ≤ 16) (group : Nat) (cause : CancelCause) :
    s.cancelGroup group cause =
      (s.left (s.groupLeavings group cause), cancelledIds cause (s.groupLeavings group cause)) := by
  have hc := Schedule.lawful_chained hlaw
  have h := State.cancelQueued_foldl (s := s) cause
    ((scheduleOrder s.schedule.entries).filter fun e => decide (e.action.group = group)) [] []
    (by rwa [State.left_nil hout]) (by
      rw [State.left_nil hout]
      intro a ha b hb
      exact hc.distinct a ((mem_scheduleOrder _ _).mp (List.mem_of_mem_filter ha)) b hb)
  rw [State.left_nil hout] at h
  exact h

end Sys2Proof.Machine
end

/-! ### What a step can do: the operations that every command is made of, and the induction over them -/

section
set_option Elab.async false
namespace Sys2Proof.Machine

/-- A law of the states that every operation of the Link Port keeps (9.3 to 9.7). -/
structure LinkKept (P : State → Prop) : Prop where
  enqueue : ∀ s c, P s → P (s.enqueue c)
  arbitrate : ∀ s, P s → P s.arbitrate
  arrives : ∀ s f, P s → s.canArrive f = true → P (s.frameArrives f)
  popWaiting : ∀ s, P s → P s.popWaiting
  withReply : ∀ s r, P s → P (s.withReply r)
  withCache : ∀ s f r, P s → P (s.withCache f r)
  resetAfterReply : ∀ s, P s → P s.resetAfterReply
  receive : ∀ s ch, P s → P (s.receive ch)
  crcError : ∀ s, P s → P (s.withLink (s.link.heard s.now).crcError)
  badLen : ∀ s, P s → P (s.withLink (s.link.heard s.now).framingError)
  gap : ∀ s, P s → P (s.withLink s.link.framingError)
  characterFault : ∀ s, P s → P (s.withLink (s.link.characterFault s.now))
  overrun : ∀ s, P s → P (s.withLink (s.link.heard s.now).overrun)
  atBreak : ∀ s, P s → P (s.withLink (s.link.atBreak s.now))
  endBreak : ∀ s, P s → P (s.withLink (s.link.endBreak s.now))
  endTransmission : ∀ s, P s → P (s.withLink s.link.endTransmission)
  endNotice : ∀ s f, P s → P (s.withLink (s.link.endNotice f s.now))
  retransmit : ∀ s, P s → P (s.withLink s.link.retransmit)

/-- A law that every operation of the part keeps, each under what the commands make sure of before it. -/
structure Kept (P : State → Prop) : Prop extends LinkKept P where
  drawn : ∀ s, P s → P s.drawn := by intros; simpa
  -- the resets, the pins and the clock
  resampleStraps : ∀ s, P s → P s.resampleStraps := by intros; simpa
  startUpReset : ∀ s c, P s → P (s.startUpReset c)
  safeNPin : ∀ s level, P s → P (s.withSafeNPin level) := by intros; simpa
  tick : ∀ s, P s → s.held = false → P s.tick
  -- the Session Monitor
  beginSession : ∀ s ms, P s → s.session.state = .noSession → s.starting = false →
    P (s.beginSession ms) := by intros; simpa
  recover : ∀ s ms, P s → s.session.state = .failsafe → s.starting = false → P (s.recover ms) := by
    intros; simpa [State.recover]
  renew : ∀ s lease, P s → s.session.state = .active → P (s.renew lease) := by intros; simpa
  close : ∀ s, P s → s.session.state = .active → P s.closeSession := by
    intros; simpa [State.closeSession]
  closeClear : ∀ s, P s → s.session.state = .active → P s.closeSession.clearAll
  enterFailsafe : ∀ s c, P s → s.starting = false ∨ s.session.state = .active → P (s.enterFailsafe c)
  addLineCause : ∀ s, P s → s.session.state = .failsafe → P s.addLineCause := by intros; simpa
  safeN : ∀ s f, P s → P (s.withSafeN f) := by intros; simpa
  disarmWarning : ∀ s, P s → P { s with session := { s.session with warning := none } } := by
    intros; simpa
  -- the lines
  circuit : ∀ s i circuit, P s → P (s.updateLine i ({ · with circuit := circuit })) := by intros; simpa
  filter : ∀ s i f f', P s → s.lines[i].filter = some f → P (s.updateLine i (·.withFilter f')) := by
    intros; simpa
  glitch : ∀ s i f f', P s → s.lines[i].filter = some f → P (s.updateLine i (·.glitch f')) := by
    intros; simpa
  expire : ∀ s i cls, P s → s.lines[i].holds cls (·.expiredBy s.now) = true →
    P (s.updateLine i (·.drop cls)) := by intros; simpa
  configureLines : ∀ s xs, P s → s.session.state = .active → s.store.operation.isLoading = false →
    s.firstInUse xs = none → P (s.configureLines xs) := by intros; simpa
  setBases : ∀ s xs, P s → P (s.setBases xs) := by intros; simpa
  setSpecs : ∀ s xs, P s → P (s.setSpecs xs) := by intros; simpa
  pinLines : ∀ s xs, P s → s.session.state = .active → P (s.pinLines xs) := by intros; simpa
  unpin : ∀ s picked, P s → P (s.unpin picked) := by intros; simpa
  clearGlitches : ∀ s i, P s → P (s.clearGlitches i) := by intros; simpa
  setSettleTimes : ∀ s v, P s → P (s.setSettleTimes v) := by intros; simpa
  -- the Edge Journal
  append : ∀ s e bank, P s → P { s with journal := s.journal.append e bank } := by intros; simpa
  disarmReady : ∀ s, P s → P { s with journal := { s.journal with armed := false } } := by intros; simpa
  rearm : ∀ s, P s → P (s.withJournal s.journal.rearm) := by intros; simpa
  releaseRecords : ∀ s n, P s → P (s.withJournal (s.journal.release n)) := by intros; simpa
  clearRecords : ∀ s, P s → P (s.withJournal s.journal.clear) := by intros; simpa
  setThreshold : ∀ s n, P s → P (s.withJournal (s.journal.setThreshold n)) := by intros; simpa
  -- the Action Scheduler
  apply : ∀ s e, P s → e ∈ s.schedule.entries → P (s.applyAction e.action) := by
    intros; simpa [State.applyAction]
  leave : ∀ s q e o, P s → q ∈ s.schedule.entries → e.action = q.action → P (s.leave e o)
  put : ∀ s q e, P s → q ∈ s.schedule.entries → e.action = q.action → e.state ≠ .waitingPred →
    P { s with schedule := s.schedule.put e } := by intros; simpa
  admitted : ∀ s body x, P s → s.session.state = .active → s.starting = false →
    s.store.operation.isLoading = false → parseSubmit body = some x → s.submitRefusal x = none →
    P (s.admitted x) := by intros; simpa [State.admitted]
  dropClaims : ∀ s cls test, P s → cls = .trigger ∨ cls = .schedule → P (s.dropClaims cls test) := by
    intros; simpa
  clearOutcomes : ∀ s, P s → P s.clearOutcomes := by intros; simpa
  -- the Trigger Unit
  applyTrigger : ∀ s k d expiry, P s → s.slots[k].definition = some d → s.slots[k].running = true →
    P (s.applyTargets .trigger (.slot k) expiry d.targets) := by intros; simpa
  slot : ∀ s k slot, P s → slot.definition = s.slots[k].definition →
    (slot.running = true → s.slots[k].running = true ∨ s.session.state ≠ .failsafe) →
    P (s.setSlot k slot) := by intros; simpa
  define : ∀ s k d, P s → s.session.state = .active → s.defineRefusal k d = none →
    P (s.define k d) := by intros; simpa [State.define]
  deleteSlot : ∀ s k, P s → P ((s.dropRefs s.slots[k].names).setSlot k .empty) := by intros; simpa
  -- the Profile Store
  staging : ∀ s st, P s → s.store.operation.inFlight = false → st.records.length ≤ 32 →
    P (s.withStaging st) := by intros; simpa
  startCommit : ∀ s p rs, P s → s.store.staging = .staging p rs → invalidAt rs = none →
    P (s.startCommit p rs) := by intros; simpa [State.startCommit]
  startLoad : ∀ s p t, P s → s.session.state = .active → s.store.operation.inFlight = false →
    s.loadBlocked = false → P (s.withOperation (.loading p t)) := by intros; simpa
  startErase : ∀ s p, P s → s.store.operation.inFlight = false → P (s.startErase p) := by
    intros; simpa [State.startErase]
  startBootWrite : ∀ s v, P s → s.store.operation.inFlight = false → P (s.startBootWrite v) := by
    intros; simpa [State.startBootWrite]
  endCommit : ∀ s p copy g a b c r, P s → s.store.operation = .committing p copy g a b →
    c = .invalid ∨ c = .valid g s.store.staging.records → P (s.endCommit p copy c r)
  endEraseStep : ∀ s p first a, P s → s.store.operation = .erasing p first a false →
    P (s.endEraseStep p first a) := by intros; simpa [State.endEraseStep]
  endErase : ∀ s p first a, P s → s.store.operation = .erasing p first a true → P (s.endErase p first)
  endBootWrite : ∀ s v copy g a b c r, P s → s.store.operation = .bootWrite v copy g a b →
    P (s.endBootWrite v copy c r)
  endLoad : ∀ s p a r, P s → s.store.operation = .loading p a → P (s.finishStore .load (some p) r)
  applyProfile : ∀ s (p : ProfileNo) n g rs, P s → s.store.operation.isLoading = true ∨ s.starting = true →
    s.store.media.slots[p].loadable = some (n, g, rs) → P (s.applyProfile rs)
  boot : ∀ s r, P s → r ≠ .inProgress → P (s.withBoot r) := by intros; simpa

/-- A law that does not speak of the link, nor of the lease's times in ACTIVE, is kept by the Link Port. -/
theorem LinkKept.of_insensitive {P : State → Prop} (hl : ∀ s l, P s → P { s with link := l })
    (hs : ∀ s, P s → P { s with session := s.session.renewedAt s.now }) : LinkKept P := by
  have harr : ∀ s f, P s → P (s.frameArrives f) := by
    intro s f h
    unfold State.frameArrives
    rw [State.renewLease_renewedAt]
    exact hl _ _ (hs s h)
  refine ⟨fun s c h => ?_, fun s h => hl s _ h, fun s f h _ => harr s f h, fun s h => hl s _ h,
    fun s r h => hl s _ h, fun s f r h => hl s _ h, fun s h => hl s _ h, fun s ch h => ?_,
    fun s h => hl s _ h, fun s h => hl s _ h, fun s h => hl s _ h, fun s h => hl s _ h,
    fun s h => hl s _ h, fun s h => hl s _ h, fun s h => hl s _ h, fun s h => hl s _ h,
    fun s f h => hl s _ h, fun s h => hl s _ h⟩
  · rw [State.enqueue_eq]; exact hl s _ h
  · have hw : ∀ t bs, P t → P (State.wholeFrame t bs) := by
      intro t bs ht
      unfold State.wholeFrame
      split
      · exact harr _ _ ht
      · exact hl _ _ ht
    have hst : ∀ t, P t → P (State.storeCharacter t ch) := by
      intro t ht
      unfold State.storeCharacter
      repeat' split
      · exact hl _ _ ht
      · exact hl _ _ ht
      · exact hw _ _ ht
      · exact hl _ _ ht
    unfold State.receive State.examine
    repeat' split
    · exact hst _ (hl _ _ h)
    · exact hl _ _ h
    · exact hl _ _ (hl _ _ h)
    · exact h

/-! #### What checks 1 to 5 make sure of -/

/-- What a request that checks 1 to 5 let through has (R179). -/
theorem gate_none {seq kind : Byte} {body : List Byte} {s : State} (h : gate ⟨seq, kind, body⟩ s = none) :
    (s.starting = false ∨ kind = 0x01) ∧ lengthFits kind body = true ∧
      sessionGate kind s.session.state = none ∧
      (s.store.operation.isLoading = false ∨ refusedWhileLoading ⟨seq, kind, body⟩ = false) := by
  unfold gate at h
  split at h
  · simp at h
  · rename_i h1
    split at h
    · simp at h
    · split at h
      · simp at h
      · rename_i h3
        cases hg : sessionGate kind s.session.state with
        | some st => simp [hg] at h
        | none =>
          simp only [hg] at h
          split at h
          · simp at h
          · rename_i h5
            refine ⟨?_, by simpa using h3, rfl, ?_⟩
            · by_cases hk : kind = 0x01
              · exact .inr hk
              · exact .inl (by cases hs : s.starting <;> simp_all)
            · cases hl : s.store.operation.isLoading
              · exact .inl rfl
              · exact .inr (by simpa [hl] using h5)

/-- A law of the state that an answer leaves, if it takes the request. -/
def Answer.Keeps (P : State → Prop) : Answer → Prop
  | .done _ _ t => P t
  | .refuse _ _ => True

section
variable {P : State → Prop}

theorem keeps_withOperands {α : Type} {parsed : Option α} {own : α → Answer}
    (h : ∀ a, parsed = some a → (own a).Keeps P) : (withOperands parsed own).Keeps P := by
  unfold withOperands
  cases parsed with
  | none => trivial
  | some a => exact h a rfl

theorem keeps_onOutputs {s : State} {lines : List LineNo} {own : Answer} (h : own.Keeps P) :
    (onOutputs s lines own).Keeps P := by
  unfold onOutputs
  split
  · trivial
  · exact h

theorem keeps_unlessBusy {s : State} {own : Answer}
    (h : s.store.operation.inFlight = false → own.Keeps P) : (unlessBusy s own).Keeps P := by
  unfold unlessBusy
  split
  · trivial
  · exact h (Bool.eq_false_iff.mpr ‹_›)

theorem keeps_whenStaging {s : State} {own : ProfileNo → List ProfileRecord → Answer}
    (h : ∀ p rs, s.store.staging = .staging p rs → (own p rs).Keeps P) : (whenStaging s own).Keeps P := by
  unfold whenStaging
  split
  · exact h _ _ ‹_›
  · trivial
  · trivial

end

namespace Kept
variable {P : State → Prop}

/-- An event keeps a law that its effect keeps. -/
theorem event (k : Kept P) {f : State → State} {s : State} (h : P s)
    (hf : s.held = false → P (f s)) : P (s.event f) := by
  unfold State.event
  split
  · exact h
  · exact k.arbitrate _ (hf (Bool.eq_false_iff.mpr ‹_›))

/-- A request keeps a law that its owning block's answer keeps. -/
theorem serve (k : Kept P) {f : Frame} {own : List Byte → State → Answer} {s : State} (h : P s)
    (ho : ∀ t, P t → gate f t = none → (own f.body t).Keeps P) : P (s.serve f own) := by
  refine k.event h fun _ => ?_
  have hp : P (s.present f) := by
    unfold State.present
    repeat' split
    · exact h
    · exact k.arrives _ _ h ‹_›
    · exact h
  dsimp only
  split
  · have hpop := k.popWaiting _ hp
    unfold State.takeFrame
    split
    · exact k.withReply _ _ hpop
    · split
      · exact k.withReply _ _ hpop
      · rename_i hgate
        have := ho _ hpop hgate
        split
        · exact k.withReply _ _ hpop
        · rename_i hown
          rw [hown] at this
          exact k.withReply _ _ (k.withCache _ _ _ this)
  · exact hp

/-! #### Edges, firings and iterations -/

theorem checkReady (k : Kept P) {s : State} (h : P s) : P s.checkReady := by
  unfold State.checkReady
  split
  · exact k.enqueue _ _ (k.disarmReady _ h)
  · exact h

theorem takeJournalEdge (k : Kept P) {s : State} (h : P s) (e : Edge) : P (s.takeJournalEdge e) := by
  unfold State.takeJournalEdge
  split
  · exact k.checkReady (k.append _ _ _ h)
  · exact h

theorem cancelGroup (k : Kept P) {s : State} (h : P s) (group : Nat) (cause : CancelCause) :
    P (s.cancelGroup group cause).1 := by
  have fold : ∀ (ids : List Nat) (acc : State × List Nat), P acc.1 →
      P (ids.foldl (State.cancelQueued cause) acc).1 := by
    intro ids
    induction ids with
    | nil => exact fun _ h => h
    | cons id ids ih =>
      intro acc ha
      refine ih _ ?_
      unfold State.cancelQueued
      split
      · exact k.leave _ _ _ _ ha (Schedule.find_some ‹_›).1 rfl
      · exact ha
  exact fold _ _ h

theorem fireCancelAndNotice (k : Kept P) {s : State} (h : P s) (i : SlotNo) (d : TriggerDef) (n : Serial) :
    P (s.fireCancelAndNotice i d n) := by
  have hc : ∀ t, P t → P (t.fireCancel i d) := by
    intro t ht; unfold State.fireCancel
    split
    · exact ht
    · exact k.cancelGroup ht _ _
  have hn : ∀ t, P t → P (t.fireNotice i d n) := by
    intro t ht; unfold State.fireNotice
    split
    · exact k.enqueue _ _ ht
    · exact ht
  unfold State.fireCancelAndNotice
  repeat' split
  · exact hn _ (hc _ (k.drawn _ h))
  · exact hc _ (hn _ (k.drawn _ h))
  · exact hn _ (hc _ h)

end Kept

/-- The group cancel and the notice of a firing leave the slots as they are. -/
theorem State.fireCancelAndNotice_slots (s : State) (k : SlotNo) (d : TriggerDef) (n : Serial) :
    (s.fireCancelAndNotice k d n).slots = s.slots := by
  refine State.fireCancelAndNotice_keeps (fun t => t.slots = s.slots) ?_ ?_ ?_ s k d n rfl
  · intro t e o ht
    exact (congrArg State.slots (State.leave_frame t e o)).trans ht
  · intro t c ht; rw [State.enqueue_eq]; exact ht
  · exact fun _ ht => ht

namespace Kept
variable {P : State → Prop}

theorem fire (k : Kept P) {s : State} (h : P s) {i : SlotNo} (hr : s.slots[i].running = true) :
    P (s.fire i) := by
  unfold State.fire
  split
  · exact h
  · rename_i d hd
    dsimp only
    have hslots : ((s.applyTargets .trigger (.slot i) (d.hold.map (s.now + ·)) d.targets).fireCancelAndNotice
        i d (s.slots[i].firings + 1)).slots = s.slots := by
      rw [State.fireCancelAndNotice_slots]; simp
    refine k.slot _ _ _ (k.fireCancelAndNotice (k.applyTrigger _ _ _ _ h hd hr) _ _ _) rfl fun _ => ?_
    rw [hslots]
    exact .inl hr

theorem offerEdge (k : Kept P) {s : State} (h : P s) (e : Edge) (i : SlotNo) :
    P (State.offerEdge e s i) := by
  unfold State.offerEdge
  split
  · exact h
  · rename_i d hd
    split
    · have hrun : s.slots[i].phase ≠ .idle → s.slots[i].running = true := by
        intro hne
        unfold Slot.running
        rw [hd]
        cases hp : s.slots[i].phase <;> simp_all
      have hslot : ∀ slot : Slot, s.slots[i].phase ≠ .idle → slot.definition = s.slots[i].definition →
          P (s.setSlot i slot) := fun slot hne hdef =>
        k.slot _ _ _ h hdef fun _ => .inl (hrun hne)
      unfold State.takeWatched
      dsimp only
      cases hp : s.slots[i].phase with
      | idle => exact h
      | armed =>
        have hne : s.slots[i].phase ≠ .idle := by rw [hp]; nofun
        dsimp only
        repeat' split
        · exact k.fire h (hrun hne)
        · exact hslot _ hne rfl
        · exact hslot _ hne rfl
      | pending t =>
        have hne : s.slots[i].phase ≠ .idle := by rw [hp]; nofun
        dsimp only
        repeat' split
        · exact hslot _ hne rfl
        · exact hslot _ hne rfl
        · exact hslot _ hne rfl
      | holdoff t => exact hslot _ (by rw [hp]; nofun) rfl
    · exact h

theorem takeTriggerEdge (k : Kept P) {s : State} (h : P s) (e : Edge) : P (s.takeTriggerEdge e) :=
  State.takeTriggerEdge_keeps P e (fun _ i ht => k.offerEdge ht e i) s h

theorem applyWaiting (k : Kept P) {s : State} (h : P s) (id : Nat) : P (s.applyWaiting id) := by
  unfold State.applyWaiting
  split
  · rename_i e he
    have hmem := (Schedule.find_some he).1
    exact k.leave _ e _ _ (k.apply _ _ h hmem) (by simpa [State.applyAction] using hmem) rfl
  · exact h

theorem takeGuardEdge (k : Kept P) {s : State} (h : P s) (e : Edge) : P (s.takeGuardEdge e) :=
  State.takeGuardEdge_keeps P e (fun _ id ht => k.applyWaiting ht id) s h

theorem deliver (k : Kept P) {s : State} (h : P s) (e : Edge) : P (s.deliver e) :=
  State.deliver_keeps P e (fun _ ht => k.takeJournalEdge ht e) (fun _ ht => k.takeTriggerEdge ht e)
    (fun _ ht => k.takeGuardEdge ht e) k.drawn s h

theorem qualify (k : Kept P) {s : State} (h : P s) (i : LineNo) (onset : Nat) : P (s.qualify i onset) := by
  unfold State.qualify
  split
  · exact h
  · exact k.deliver (k.filter _ _ _ _ h ‹_›) _

theorem beginSettle (k : Kept P) {s : State} (h : P s) (i : LineNo) : P (s.beginSettle i) := by
  unfold State.beginSettle
  dsimp only
  split
  · exact h
  · repeat' split
    · exact h
    · exact k.qualify h _ _
    · exact k.filter _ _ _ _ h ‹_›

theorem sampleLine (k : Kept P) {s : State} (h : P s) (i : LineNo) (circuit : Outside) :
    P (s.sampleLine i circuit) := by
  have hc := k.circuit s i circuit h
  unfold State.sampleLine
  dsimp only
  split
  · exact hc
  · split
    · exact hc
    · unfold State.takeSample
      split
      · exact hc
      · rename_i f hf
        dsimp only
        repeat' split
        · exact k.beginSettle (k.filter _ _ _ _ hc hf) _
        · exact k.glitch _ _ _ _ hc hf
        · exact k.filter _ _ _ _ hc hf

theorem completeSettle (k : Kept P) {s : State} (h : P s) (i : LineNo) : P (s.completeSettle i) := by
  unfold State.completeSettle
  repeat' split
  · exact h
  · exact h
  · exact k.beginSettle (k.qualify h _ _) _
  · exact h

theorem endIteration (k : Kept P) {s : State} (h : P s) {q e : Entry} (hq : q ∈ s.schedule.entries)
    (he : e.action = q.action) (due : Nat) : P (s.endIteration e due) := by
  unfold State.endIteration
  split
  · exact k.leave _ q _ _ h hq he
  · exact k.put _ q _ h hq he (by simp)

theorem applyIteration (k : Kept P) {s : State} (h : P s) {e : Entry} (he : e ∈ s.schedule.entries)
    (due : Nat) : P (s.applyIteration e due) := by
  unfold State.applyIteration
  refine k.endIteration (q := e) (e := e.noteApplied s.now) (k.apply _ _ h he) ?_ rfl due
  simpa [State.applyAction] using he

theorem arrive (k : Kept P) {s : State} (h : P s) {e : Entry} (he : e ∈ s.schedule.entries) (due : Nat) :
    P (s.arrive e due) := by
  unfold State.arrive
  repeat' split
  · exact k.applyIteration h he due
  · exact k.applyIteration h he due
  · exact k.endIteration (q := e) (e := e.noteSkipped) h he rfl due
  · exact k.put _ e _ h he rfl (by simp)

theorem releaseIf (k : Kept P) {s : State} (h : P s) (flag : Bool) {cls : ClaimClass}
    (hc : cls = .trigger ∨ cls = .schedule) (test : Claim → Bool) : P (s.releaseIf flag cls test) := by
  unfold State.releaseIf
  split
  · exact k.dropClaims _ _ _ h hc
  · exact h

/-- An event of the receiver keeps a law that its effect on the link keeps. -/
theorem onRxd {s : State} {f : Link → Link} (h : P s) (hf : P (s.withLink (f s.link))) :
    P (s.onRxd f) := by
  unfold State.onRxd
  split
  · exact hf
  · exact h

end Kept

end Sys2Proof.Machine
end

/-! ### The induction over the commands: what every operation keeps, every step keeps -/

section
set_option Elab.async false
namespace Sys2Proof.Machine


/-- A kind that the table of R147 admits in ACTIVE alone. -/
theorem sessionGate_active {kind : Byte} {st : SessionState} (h : sessionGate kind st = none)
    (hk : takenInEveryState.contains kind = false ∧ kind ≠ 0x08 ∧ kind ≠ 0x0C) : st = .active := by
  unfold sessionGate at h
  rw [if_neg (by simp only [hk.1, Bool.false_eq_true, not_false_eq_true]), if_neg hk.2.1, if_neg hk.2.2] at h
  cases st <;> simp_all

/-- What `gate_none` says of a request of a kind that is taken in ACTIVE alone, other than IDENTIFY. -/
theorem gate_none_active {seq kind : Byte} {body : List Byte} {s : State}
    (h : gate ⟨seq, kind, body⟩ s = none)
    (hk : takenInEveryState.contains kind = false ∧ kind ≠ 0x08 ∧ kind ≠ 0x0C) :
    s.session.state = .active ∧ s.starting = false ∧
      (s.store.operation.isLoading = false ∨ refusedWhileLoading ⟨seq, kind, body⟩ = false) := by
  obtain ⟨hs, -, hg, hl⟩ := gate_none h
  refine ⟨sessionGate_active hg hk, hs.resolve_right fun h1 => ?_, hl⟩
  rw [h1] at hk
  exact absurd hk.1 (by decide)

/-- The records that CAPTURE stores are never more than the staging list holds (R154, R158). -/
theorem State.captureRecords_length (s : State) : s.captureRecords.length ≤ 32 := by
  have h1 := List.length_filterMap_le s.captureBank (List.finRange 5)
  have h2 := List.length_filterMap_le s.captureSlot (List.finRange 16)
  have h3 : (s.store.label.map ProfileRecord.label).toList.length ≤ 1 := by
    cases s.store.label <;> simp
  rw [List.length_finRange] at h1 h2
  simp only [State.captureRecords, List.length_append, List.length_cons, List.length_nil]
  omega

/-- The boot result that stands for no profile is not that of a load in progress. -/
theorem Media.unreadResult_ne (m : Media) : m.unreadResult ≠ .inProgress := by
  unfold Media.unreadResult
  repeat' split
  all_goals nofun

namespace Kept
variable {P : State → Prop} {s : State} {seq : Byte} {body : List Byte}

/-! #### The answers of the owning blocks -/

theorem answerOpen (k : Kept P) (h : P s) (hg : gate ⟨seq, 0x08, body⟩ s = none) :
    (answerOpen body s).Keeps P := by
  obtain ⟨hs, -, hsession, -⟩ := gate_none hg
  refine keeps_withOperands fun ms _ => k.beginSession s ms h ?_ (hs.resolve_right (by decide))
  cases hst : s.session.state <;> rw [hst] at hsession <;> first | rfl | exact absurd hsession (by decide)

theorem answerRecover (k : Kept P) (h : P s) (hg : gate ⟨seq, 0x0C, body⟩ s = none) :
    (answerRecover body s).Keeps P := by
  obtain ⟨hs, -, hsession, -⟩ := gate_none hg
  refine keeps_withOperands fun ms _ => ?_
  split
  · trivial
  · refine k.recover s ms h ?_ (hs.resolve_right (by decide))
    cases hst : s.session.state <;> rw [hst] at hsession <;> first | rfl | exact absurd hsession (by decide)

theorem answerRenew (k : Kept P) (h : P s) (hg : gate ⟨seq, 0x09, body⟩ s = none) :
    (answerRenew body s).Keeps P :=
  keeps_withOperands fun lease _ => k.renew s lease h (gate_none_active hg (by decide)).1

theorem answerClose (k : Kept P) (h : P s) (hg : gate ⟨seq, 0x0A, body⟩ s = none) :
    (answerClose body s).Keeps P := by
  have hact := (gate_none_active hg (by decide)).1
  refine keeps_withOperands fun clear _ => ?_
  cases clear
  · exact k.close s h hact
  · exact k.closeClear s h hact

theorem answerFailsafeNow (k : Kept P) (h : P s) (hg : gate ⟨seq, 0x0B, body⟩ s = none) :
    (answerFailsafeNow body s).Keeps P :=
  k.enterFailsafe s .request h (.inl (gate_none_active hg (by decide)).2.1)

theorem answerConfigureLines (k : Kept P) (h : P s) (hg : gate ⟨seq, 0x10, body⟩ s = none) :
    (answerConfigureLines body s).Keeps P := by
  obtain ⟨hact, -, hload⟩ := gate_none_active hg (by decide)
  refine keeps_withOperands fun xs _ => ?_
  cases hx : s.firstInUse xs with
  | some x => trivial
  | none => exact k.configureLines s xs h hact (hload.resolve_right (by simp [refusedWhileLoading])) hx

theorem answerSetBase (k : Kept P) (h : P s) : (answerSetBase body s).Keeps P :=
  keeps_withOperands fun xs _ => keeps_onOutputs (k.setBases s xs h)

theorem answerSetFailsafe (k : Kept P) (h : P s) : (answerSetFailsafe body s).Keeps P :=
  keeps_withOperands fun xs _ => keeps_onOutputs (k.setSpecs s xs h)

theorem answerPinLines (k : Kept P) (h : P s) (hg : gate ⟨seq, 0x13, body⟩ s = none) :
    (answerPinLines body s).Keeps P :=
  keeps_withOperands fun xs _ => keeps_onOutputs (k.pinLines s xs h (gate_none_active hg (by decide)).1)

theorem answerUnpinLines (k : Kept P) (h : P s) : (answerUnpinLines body s).Keeps P :=
  keeps_withOperands fun _ _ => keeps_onOutputs (k.unpin s _ h)

theorem answerReadJournal (k : Kept P) (h : P s) : (answerReadJournal body s).Keeps P := by
  refine keeps_withOperands fun x _ => ?_
  obtain ⟨count, start⟩ := x
  dsimp only
  split
  · exact k.rearm s h
  · trivial

theorem answerReleaseJournal (k : Kept P) (h : P s) : (answerReleaseJournal body s).Keeps P := by
  unfold Machine.answerReleaseJournal
  split
  · exact k.releaseRecords s _ h
  · trivial

theorem answerSubmit (k : Kept P) (h : P s) (hg : gate ⟨seq, 0x30, body⟩ s = none) :
    (answerSubmit body s).Keeps P := by
  obtain ⟨hact, hstart, hload⟩ := gate_none_active hg (by decide)
  refine keeps_withOperands fun x hx => ?_
  cases hr : s.submitRefusal x with
  | some r => trivial
  | none => exact k.admitted s body x h hact hstart (hload.resolve_right (by simp [refusedWhileLoading])) hx hr

theorem answerCancelAction (k : Kept P) (h : P s) : (answerCancelAction body s).Keeps P := by
  refine keeps_withOperands fun x _ => ?_
  obtain ⟨id, release⟩ := x
  dsimp only
  split
  · trivial
  · exact k.releaseIf (k.leave _ _ _ _ h (Schedule.find_some ‹_›).1 rfl) _ (.inr rfl) _

theorem answerCancelGroup (k : Kept P) (h : P s) : (answerCancelGroup body s).Keeps P := by
  refine keeps_withOperands fun x _ => ?_
  exact k.releaseIf (k.cancelGroup h _ _) _ (.inr rfl) _

theorem answerReadOutcomes (k : Kept P) (h : P s) : (answerReadOutcomes body s).Keeps P := by
  refine keeps_withOperands fun clear _ => ?_
  cases clear
  · exact h
  · exact k.clearOutcomes s h

theorem answerDefineTrigger (k : Kept P) (h : P s) (hg : gate ⟨seq, 0x40, body⟩ s = none) :
    (answerDefineTrigger body s).Keeps P := by
  refine keeps_withOperands fun x _ => ?_
  obtain ⟨i, d⟩ := x
  dsimp only
  split
  · trivial
  · exact k.define s i d h (gate_none_active hg (by decide)).1 ‹_›

theorem answerArmTrigger (k : Kept P) (h : P s) (hg : gate ⟨seq, 0x41, body⟩ s = none) :
    (answerArmTrigger body s).Keeps P := by
  have hact := (gate_none_active hg (by decide)).1
  refine keeps_withOperands fun i _ => k.slot s i _ h ?_ fun _ => .inr (by rw [hact]; nofun)
  unfold Slot.arm
  split <;> rfl

theorem answerDisarmTrigger (k : Kept P) (h : P s) : (answerDisarmTrigger body s).Keeps P := by
  refine keeps_withOperands fun x _ => ?_
  obtain ⟨i, release⟩ := x
  refine k.releaseIf (k.slot s i s.slots[i].standDown h rfl fun hr => ?_) _ (.inl rfl) _
  unfold Slot.running Slot.standDown at hr
  dsimp only at hr
  split at hr <;> simp_all

theorem answerDeleteTrigger (k : Kept P) (h : P s) : (answerDeleteTrigger body s).Keeps P := by
  refine keeps_withOperands fun i _ => ?_
  have hrel := k.releaseIf h (s.slots[i].releases true) (.inl rfl) (fromOrigin (.slot i))
  have hdel := k.deleteSlot _ i hrel
  have hslots : (s.releaseIf (s.slots[i].releases true) .trigger (fromOrigin (.slot i))).slots = s.slots := by
    unfold State.releaseIf; split <;> simp
  rw [hslots] at hdel
  exact hdel

theorem answerReadTrigger (k : Kept P) (h : P s) : (answerReadTrigger body s).Keeps P := by
  refine keeps_withOperands fun x _ => ?_
  obtain ⟨i, clear⟩ := x
  cases clear
  · exact h
  · exact k.slot s _ _ h rfl fun hr => .inl hr

theorem answerBeginProfile (k : Kept P) (h : P s) : (answerBeginProfile body s).Keeps P := by
  refine keeps_withOperands fun p _ => keeps_unlessBusy fun hop => ?_
  split
  · exact k.staging s _ h hop (Nat.zero_le _)
  · trivial
  · trivial

theorem answerAppendRecord (k : Kept P) (h : P s) : (answerAppendRecord body s).Keeps P := by
  refine keeps_withOperands fun r _ => keeps_unlessBusy fun hop => keeps_whenStaging fun p rs _ => ?_
  split
  · trivial
  · refine k.staging s _ h hop ?_
    simp only [Staging.records, List.length_append, List.length_cons, List.length_nil]
    omega

theorem answerCapture (k : Kept P) (h : P s) : (answerCapture body s).Keeps P :=
  keeps_unlessBusy fun hop => keeps_whenStaging fun _ _ _ =>
    k.staging s _ h hop (State.captureRecords_length s)

theorem answerAbandonProfile (k : Kept P) (h : P s) : (answerAbandonProfile body s).Keeps P :=
  keeps_unlessBusy fun hop => keeps_whenStaging fun _ _ _ => k.staging s _ h hop (Nat.zero_le _)

theorem answerCommitProfile (k : Kept P) (h : P s) : (answerCommitProfile body s).Keeps P := by
  refine keeps_unlessBusy fun _ => keeps_whenStaging fun p rs hst => ?_
  split
  · trivial
  · exact k.startCommit s p rs h hst ‹_›

theorem answerLoadProfile (k : Kept P) (h : P s) (hg : gate ⟨seq, 0x55, body⟩ s = none) :
    (answerLoadProfile body s).Keeps P := by
  refine keeps_withOperands fun p _ => keeps_unlessBusy fun hop => ?_
  split
  · trivial
  · split
    · trivial
    · exact k.startLoad s p _ h (gate_none_active hg (by decide)).1 hop (Bool.eq_false_iff.mpr ‹_›)

theorem answerEraseProfile (k : Kept P) (h : P s) : (answerEraseProfile body s).Keeps P :=
  keeps_withOperands fun p _ => keeps_unlessBusy fun hop => k.startErase s p h hop

theorem answerSetBootSlot (k : Kept P) (h : P s) : (answerSetBootSlot body s).Keeps P :=
  keeps_withOperands fun v _ => keeps_unlessBusy fun hop => k.startBootWrite s v h hop

theorem answerReadProfile (h : P s) : (answerReadProfile body s).Keeps P := by
  refine keeps_withOperands fun x _ => ?_
  obtain ⟨source, start⟩ := x
  cases source
  · exact keeps_unlessBusy fun _ => h
  · exact h

/-! #### The events -/

theorem qualifySafeN (k : Kept P) (h : P s) : P s.qualifySafeN := by
  unfold State.qualifySafeN State.assertSafeN
  dsimp only
  have hs := k.safeN s (s.session.safeN.qualify s.now) h
  split
  · split
    · exact k.enterFailsafe _ _ hs (.inr (by simpa using ‹_›))
    · split
      · exact hs
      · exact k.enterFailsafe _ _ hs (.inl (Bool.eq_false_iff.mpr ‹_›))
    · exact k.addLineCause _ hs (by simpa using ‹_›)
  · exact hs

theorem endReply (k : Kept P) (h : P s) : P s.endReply := by
  unfold State.endReply
  repeat' split
  · exact k.startUpReset _ _ (k.resampleStraps _ h)
  · exact k.endTransmission _ h
  · exact h
  · exact h
  · exact h

theorem endStartup (k : Kept P) (h : P s) (hs : s.starting = true) (checked : Bool) :
    P (s.endStartup checked) := by
  unfold State.endStartup
  split
  · rename_i rs hrs
    split
    · unfold Media.bootProfile at hrs
      split at hrs
      · rename_i p _
        obtain ⟨⟨n, g, rs'⟩, hload, rfl⟩ := Option.map_eq_some_iff.mp hrs
        exact k.boot _ _ (k.applyProfile s p n g _ h (.inr hs) hload) (by nofun)
      · simp at hrs
    · exact k.boot _ _ h (by nofun)
  · exact k.boot _ _ h (Media.unreadResult_ne _)

theorem endStartup_starting (s : State) (checked : Bool) : (s.endStartup checked).starting = false := by
  have hboot : ∀ (t : State) (r : BootResult), r ≠ .inProgress → (t.withBoot r).starting = false := by
    intro t r hr; cases r <;> first | exact absurd rfl hr | rfl
  unfold State.endStartup
  repeat' split
  · exact hboot _ _ (by nofun)
  · exact hboot _ _ (by nofun)
  · exact hboot _ _ (Media.unreadResult_ne _)

theorem startupLoad (k : Kept P) (h : P s) (hs : s.starting = true) (checked : Bool) :
    P (s.endStartup checked).startupSafeNCheck := by
  unfold State.startupSafeNCheck
  split
  · exact k.enterFailsafe _ _ (k.endStartup h hs checked) (.inl (endStartup_starting s checked))
  · exact k.endStartup h hs checked

end Kept

/-- The commands of the supply and of RST_N, which change the pins that hold the part in reset (R189). -/
def Instr.isPower : Instr → Bool
  | .powerOn _ _ | .rstNAssert _ _ | .rstNRelease | .supplyBelowRange => true
  | _ => false

/-- Every command but those of the supply and of RST_N keeps a law that every operation keeps. -/
theorem Kept.exec {P : State → Prop} (k : Kept P) {s t : State} (h : P s) (c : Instr)
    (hc : Instr.isPower c = false) (he : exec c s = .next t) : P t := by
  suffices hP : ∃ u, Machine.exec c s = .next u ∧ P u by
    obtain ⟨u, hu, hP⟩ := hP
    rw [he] at hu
    injection hu with hu
    exact hu ▸ hP
  cases c with
  | identify | status | readLevels => exact ⟨_, rfl, k.serve h fun _ ht _ => ht⟩
  | reset => exact ⟨_, rfl, k.serve h fun _ ht _ => k.resetAfterReply _ ht⟩
  | openSession => exact ⟨_, rfl, k.serve h fun _ ht hg => k.answerOpen ht hg⟩
  | renew => exact ⟨_, rfl, k.serve h fun _ ht hg => k.answerRenew ht hg⟩
  | close => exact ⟨_, rfl, k.serve h fun _ ht hg => k.answerClose ht hg⟩
  | failsafeNow => exact ⟨_, rfl, k.serve h fun _ ht hg => k.answerFailsafeNow ht hg⟩
  | recover => exact ⟨_, rfl, k.serve h fun _ ht hg => k.answerRecover ht hg⟩
  | configureLines => exact ⟨_, rfl, k.serve h fun _ ht hg => k.answerConfigureLines ht hg⟩
  | setBase => exact ⟨_, rfl, k.serve h fun _ ht _ => k.answerSetBase ht⟩
  | setFailsafe => exact ⟨_, rfl, k.serve h fun _ ht _ => k.answerSetFailsafe ht⟩
  | pinLines => exact ⟨_, rfl, k.serve h fun _ ht hg => k.answerPinLines ht hg⟩
  | unpinLines => exact ⟨_, rfl, k.serve h fun _ ht _ => k.answerUnpinLines ht⟩
  | readLine => exact ⟨_, rfl, k.serve h fun _ ht _ => keeps_withOperands fun i _ => k.clearGlitches _ i ht⟩
  | setFilterClasses => exact ⟨_, rfl, k.serve h fun _ ht _ => k.setSettleTimes _ _ ht⟩
  | readJournal => exact ⟨_, rfl, k.serve h fun _ ht _ => k.answerReadJournal ht⟩
  | releaseJournal => exact ⟨_, rfl, k.serve h fun _ ht _ => k.answerReleaseJournal ht⟩
  | clearJournal => exact ⟨_, rfl, k.serve h fun _ ht _ => k.clearRecords _ ht⟩
  | setJournal => exact ⟨_, rfl, k.serve h fun _ ht _ => keeps_withOperands fun n _ => k.setThreshold _ n ht⟩
  | submitAction => exact ⟨_, rfl, k.serve h fun _ ht hg => k.answerSubmit ht hg⟩
  | cancelAction => exact ⟨_, rfl, k.serve h fun _ ht _ => k.answerCancelAction ht⟩
  | cancelGroup => exact ⟨_, rfl, k.serve h fun _ ht _ => k.answerCancelGroup ht⟩
  | queryAction =>
    refine ⟨_, rfl, k.serve h fun _ ht _ => keeps_withOperands fun id _ => ?_⟩
    split
    · exact ht
    · trivial
  | listSchedule => exact ⟨_, rfl, k.serve h fun _ ht _ => keeps_withOperands fun _ _ => ht⟩
  | readOutcomes => exact ⟨_, rfl, k.serve h fun _ ht _ => k.answerReadOutcomes ht⟩
  | defineTrigger => exact ⟨_, rfl, k.serve h fun _ ht hg => k.answerDefineTrigger ht hg⟩
  | armTrigger => exact ⟨_, rfl, k.serve h fun _ ht hg => k.answerArmTrigger ht hg⟩
  | disarmTrigger => exact ⟨_, rfl, k.serve h fun _ ht _ => k.answerDisarmTrigger ht⟩
  | deleteTrigger => exact ⟨_, rfl, k.serve h fun _ ht _ => k.answerDeleteTrigger ht⟩
  | readTrigger => exact ⟨_, rfl, k.serve h fun _ ht _ => k.answerReadTrigger ht⟩
  | beginProfile => exact ⟨_, rfl, k.serve h fun _ ht _ => k.answerBeginProfile ht⟩
  | appendRecord => exact ⟨_, rfl, k.serve h fun _ ht _ => k.answerAppendRecord ht⟩
  | capture => exact ⟨_, rfl, k.serve h fun _ ht _ => k.answerCapture ht⟩
  | abandonProfile => exact ⟨_, rfl, k.serve h fun _ ht _ => k.answerAbandonProfile ht⟩
  | commitProfile => exact ⟨_, rfl, k.serve h fun _ ht _ => k.answerCommitProfile ht⟩
  | loadProfile => exact ⟨_, rfl, k.serve h fun _ ht hg => k.answerLoadProfile ht hg⟩
  | eraseProfile => exact ⟨_, rfl, k.serve h fun _ ht _ => k.answerEraseProfile ht⟩
  | setBootSlot => exact ⟨_, rfl, k.serve h fun _ ht _ => k.answerSetBootSlot ht⟩
  | readProfile => exact ⟨_, rfl, k.serve h fun _ ht _ => answerReadProfile ht⟩
  | unknownRequest seq kind body =>
    simp only [Machine.exec, execUnknownRequest]
    split
    · exact ⟨_, rfl, h⟩
    · exact ⟨_, rfl, k.serve h fun _ _ _ => trivial⟩
  | validFrameArrival | ack =>
    refine ⟨_, rfl, k.event h fun _ => ?_⟩
    split
    · exact k.arrives _ _ h ‹_›
    · exact h
  | crcError => exact ⟨_, rfl, k.event h fun _ => onRxd h (k.crcError _ h)⟩
  | lenOutOfRange =>
    refine ⟨_, rfl, k.event h fun _ => onRxd h ?_⟩
    split
    · exact k.badLen _ h
    · exact h
  | frameGapTimeout =>
    refine ⟨_, rfl, k.event h fun _ => ?_⟩
    split
    · exact k.gap _ h
    · exact h
  | characterFault => exact ⟨_, rfl, k.event h fun _ => onRxd h (k.characterFault _ h)⟩
  | overrun =>
    refine ⟨_, rfl, k.event h fun _ => onRxd h ?_⟩
    split
    · exact k.overrun _ h
    · exact h
  | lineBreak =>
    refine ⟨_, rfl, k.event h fun _ => ?_⟩
    split
    · exact k.atBreak _ h
    · exact h
  | lineBreakEnd =>
    refine ⟨_, rfl, k.event h fun _ => ?_⟩
    split
    · exact k.endBreak _ h
    · exact h
  | replyTransmissionEnd => exact ⟨_, rfl, k.event h fun _ => k.endReply h⟩
  | noticeTransmissionEnd =>
    refine ⟨_, rfl, k.event h fun _ => ?_⟩
    repeat' split
    · exact k.endNotice _ _ h
    · exact h
    · exact h
    · exact h
  | retransmissionTime =>
    refine ⟨_, rfl, k.event h fun _ => ?_⟩
    split
    · exact k.retransmit _ h
    · exact h
  | rawChange i circuit =>
    simp only [Machine.exec, execRawChange]
    split
    · exact ⟨_, rfl, k.circuit _ _ _ h⟩
    · exact ⟨_, rfl, k.event h fun _ => k.sampleLine h _ _⟩
  | qualification => exact ⟨_, rfl, k.event h fun _ => k.completeSettle h _⟩
  | claimExpiry =>
    refine ⟨_, rfl, k.event h fun _ => ?_⟩
    split
    · exact k.expire _ _ _ h ‹_›
    · exact h
  | dueArrival =>
    refine ⟨_, rfl, k.event h fun _ => ?_⟩
    split
    · rename_i e due hnext
      unfold Schedule.nextDue at hnext
      obtain ⟨x, hx, hmap⟩ := List.exists_of_findSome?_eq_some hnext
      obtain ⟨d, -, heq⟩ := Option.map_eq_some_iff.mp hmap
      obtain ⟨rfl, rfl⟩ := Prod.mk.inj heq
      exact k.arrive h ((mem_scheduleOrder _ _).mp hx) _
    · exact h
  | guardDeadline =>
    refine ⟨_, rfl, k.event h fun _ => ?_⟩
    split
    · rename_i e hnext
      exact k.leave _ e _ _ h ((mem_scheduleOrder _ _).mp (List.mem_of_find?_eq_some hnext)) rfl
    · exact h
  | fireTime =>
    refine ⟨_, rfl, k.event h fun _ => ?_⟩
    refine List.foldlRecOn (motive := P) _ _ h fun t ht i _ => ?_
    unfold State.fireIfDue
    split
    · rename_i hdue
      cases hd : t.slots[i].definition with
      | none => unfold State.fire; rw [hd]; exact ht
      | some d =>
        refine k.fire ht ?_
        obtain ⟨time, hp, -⟩ := (Slot.fireDueBy_iff _ _).mp hdue
        rw [Slot.running, hd, hp]
    · exact ht
  | holdoffEnd i =>
    refine ⟨_, rfl, k.event h fun _ => ?_⟩
    split
    · rename_i hover
      refine k.slot _ _ _ h rfl fun hr => .inl ?_
      unfold Slot.holdoffOverBy at hover
      unfold Slot.running at hr ⊢
      dsimp only at hr
      cases hd : s.slots[i].definition <;> cases hp : s.slots[i].phase <;> simp_all
    · exact h
  | warningArrival =>
    refine ⟨_, rfl, k.event h fun _ => ?_⟩
    split
    · exact k.enqueue _ _ (k.disarmWarning _ h)
    · exact h
  | leaseExpiry =>
    refine ⟨_, rfl, k.event h fun _ => ?_⟩
    split
    · rename_i hact
      exact k.enterFailsafe _ _ h (.inr (of_decide_eq_true (Bool.and_eq_true_iff.mp hact).1))
    · exact h
  | safeNChange level =>
    simp only [Machine.exec, execSafeNChange]
    split
    · exact ⟨_, rfl, k.safeNPin _ _ h⟩
    · exact ⟨_, rfl, k.event h fun _ => k.safeN _ _ (k.safeNPin _ _ h)⟩
  | safeNQualification =>
    refine ⟨_, rfl, k.event h fun _ => ?_⟩
    split
    · exact k.qualifySafeN h
    · exact h
  | commitCompletion =>
    refine ⟨_, rfl, k.event h fun _ => ?_⟩
    split
    · dsimp only
      repeat' split
      · exact k.endCommit _ _ _ _ _ _ _ _ h ‹_› (.inr rfl)
      · exact h
      · exact k.endCommit _ _ _ _ _ _ _ _ h ‹_› (.inl rfl)
      · exact h
    all_goals exact h
  | loadCompletion =>
    refine ⟨_, rfl, k.event h fun _ => ?_⟩
    split
    · rename_i p started hop
      split
      · rename_i n g rs hload
        repeat' split
        · exact k.endLoad _ p started _ (k.applyProfile s p n g rs h (.inl (by rw [hop]; rfl)) hload) hop
        · exact k.endLoad _ _ _ _ h hop
        · exact h
      · exact h
    all_goals exact h
  | eraseFirstStepEnd =>
    refine ⟨_, rfl, k.event h fun _ => ?_⟩
    split
    · split
      · exact k.endEraseStep _ _ _ _ h ‹_›
      · exact h
    all_goals exact h
  | eraseCompletion =>
    refine ⟨_, rfl, k.event h fun _ => ?_⟩
    split
    · split
      · exact k.endErase _ _ _ _ h ‹_›
      · exact h
    all_goals exact h
  | bootWriteCompletion =>
    refine ⟨_, rfl, k.event h fun _ => ?_⟩
    split
    · repeat' split
      · exact k.endBootWrite _ _ _ _ _ _ _ _ h ‹_›
      · exact k.endBootWrite _ _ _ _ _ _ _ _ h ‹_›
      · exact h
    all_goals exact h
  | startupLoadCompletion =>
    refine ⟨_, rfl, k.event h fun _ => ?_⟩
    split
    · rename_i hs
      exact k.startupLoad h (Bool.and_eq_true_iff.mp hs).1 _
    · exact h
  | powerOn | rstNAssert | rstNRelease | supplyBelowRange => cases hc
  | clockLimit =>
    refine ⟨_, rfl, k.event h fun _ => ?_⟩
    split
    · exact k.startUpReset _ _ (k.resampleStraps _ h)
    · exact h
  | characterReceived => exact ⟨_, rfl, k.event h fun _ => k.receive _ _ h⟩

/-- Every step keeps a law that every operation keeps, when it speaks neither of the queue of commands nor of the
pins. -/
theorem Kept.step {P : State → Prop} (k : Kept P) (hqueue : ∀ s q, P s → P { s with pending := q })
    (hpins : ∀ s pins, P s → P (s.withPins pins)) {s t : State} (h : P s)
    (hs : step s = .next t) : P t := by
  have hexec : ∀ (u : State) (c : Instr), P u → Machine.exec c u = .next t → P t := by
    intro u c hu he
    cases hc : Instr.isPower c with
    | false => exact k.exec hu c hc he
    | true =>
      cases c with
      | powerOn => cases he; exact k.startUpReset _ _ (hpins _ _ hu)
      | rstNAssert =>
        simp only [Machine.exec, execRstNAssert] at he
        repeat' split at he
        · cases he; exact hu
        · cases he; exact k.startUpReset _ _ (hpins _ _ hu)
        · cases he; exact hpins _ _ hu
      | rstNRelease => cases he; exact hpins _ _ hu
      | supplyBelowRange => cases he; exact k.startUpReset _ _ (hpins _ _ hu)
      | _ => cases hc
  unfold Machine.step at hs
  split at hs
  · exact hexec _ _ (hqueue _ _ h) hs
  · split at hs
    · rename_i e u hnext
      refine hexec u e ?_ hs
      unfold State.nextEvent at hnext
      repeat' split at hnext
      · cases hnext; exact h
      · simp at hnext
      · cases hnext; exact k.drawn _ h
    · cases hs
      cases hh : s.held with
      | true => rwa [State.tick, if_pos hh]
      | false => exact k.tick _ h hh

end Sys2Proof.Machine
end

/-! ### The laws of the journal (R43, R44, R46, R49) -/

section
set_option Elab.async false
namespace Sys2Proof.Machine

/-- The numbers before the next one, after one number more has been given. -/
theorem serial_sub_succ (x : Serial) (m : Nat) : x + 1 - BitVec.ofNat 32 (m + 1) = x - BitVec.ofNat 32 m := by
  rw [BitVec.ofNat_add]
  exact add_sub_add_right_eq_sub x (BitVec.ofNat 32 m) 1#32

/-- The laws of the journal speak of the records and of the next number alone. -/
theorem Journal.lawful_congr {j j' : Journal} (h : j.lawful) (hr : j'.records = j.records)
    (hn : j'.nextSeq = j.nextSeq) : j'.lawful := by
  unfold Journal.lawful Journal.openGapNewest at *
  simpa only [hr, hn] using h

/-- A journal that has taken one record more is lawful, when none of the older ones is an open GAP now. -/
theorem Journal.lawful_extended {j : Journal} (h : j.lawful) {rs : List JournalRecord} {r : JournalRecord}
    (hrs : rs.map (·.seq) = j.records.map (·.seq)) (hopen : ∀ x ∈ rs, x.isOpenGap = false)
    (hr : r.seq = j.nextSeq) (hroom : rs.length < 256) (hfull : rs.length = 255 → r.isOpenGap = true) :
    ({ j with records := rs ++ [r], nextSeq := j.nextSeq + 1 } : Journal).lawful := by
  obtain ⟨-, hseq, -, -⟩ := h
  have hlen : rs.length = j.records.length := by simpa using congrArg List.length hrs
  refine ⟨by simp; omega, fun k hk => ?_, fun k hk ho => ?_, fun hl => ?_⟩
  · simp only [List.length_append, List.length_cons, List.length_nil, Nat.zero_add] at hk ⊢
    rcases Nat.lt_or_ge k rs.length with hlt | hge
    · have hold : rs[k].seq = j.records[k].seq := by
        have := congrArg (fun l => l[k]?) hrs
        simpa [hlt, hlen ▸ hlt] using this
      rw [List.getElem_append_left hlt, hold, hseq k (hlen ▸ hlt), ← hlen,
        show rs.length + 1 - k = rs.length - k + 1 by omega, serial_sub_succ]
    · have hk' : k = rs.length := by omega
      subst hk'
      rw [List.getElem_append_right (le_refl _)]
      simp only [Nat.sub_self, List.getElem_cons_zero, hr, show rs.length + 1 - rs.length = 0 + 1 by omega,
        serial_sub_succ]
      simp
  · simp only [List.length_append, List.length_cons, List.length_nil, Nat.zero_add] at hk ⊢
    rcases Nat.lt_or_ge k rs.length with hlt | hge
    · rw [List.getElem_append_left hlt, hopen _ (List.getElem_mem hlt)] at ho
      cases ho
    · omega
  · simp only [List.length_append, List.length_cons, List.length_nil, Nat.zero_add] at hl
    simpa [Journal.openGapNewest] using hfull (by omega)

/-- In a lawful journal the records are all closed when the newest one is. -/
theorem Journal.closed_of_newest {j : Journal} (h : j.lawful) (hn : j.openGapNewest = false) :
    ∀ x ∈ j.records, x.isOpenGap = false := by
  obtain ⟨-, -, hopen, -⟩ := h
  intro x hx
  obtain ⟨k, hk, rfl⟩ := List.getElem_of_mem hx
  by_contra ho
  have hlast := hopen k hk (by simpa using ho)
  refine ho ?_
  have : j.records.getLast? = some j.records[k] := by
    rw [List.getLast?_eq_getElem?, show j.records.length - 1 = k by omega, List.getElem?_eq_getElem hk]
  simpa [Journal.openGapNewest, this] using hn

/-- A journaled edge keeps the laws of the journal: an EDGE record closes the newest one, a GAP record opens in a
journal whose records are closed, and a count in the open GAP changes no number (R48, R49, R50). -/
theorem Journal.lawful_append {j : Journal} (h : j.lawful) (e : Edge) (bank : Byte) :
    (j.append e bank).lawful := by
  unfold Journal.append
  split
  · rename_i hroom
    unfold Journal.held at hroom
    refine Journal.lawful_extended h ?_ ?_ rfl (by simpa using by omega) (by simpa using by omega)
    · rcases List.eq_nil_or_concat j.records with hnil | ⟨rs, r, hrs⟩
      · rw [hnil]; rfl
      · rw [hrs, List.concat_eq_append, changeNewest_append]; simp
    · obtain ⟨-, -, hopen, -⟩ := h
      intro x hx
      rcases List.eq_nil_or_concat j.records with hnil | ⟨rs, r, hrs⟩
      · rw [hnil] at hx; simp [changeNewest] at hx
      · rw [List.concat_eq_append] at hrs
        rw [hrs, changeNewest_append] at hx
        rcases List.mem_append.mp hx with hx | hx
        · obtain ⟨k, hk, rfl⟩ := List.getElem_of_mem hx
          by_contra ho
          have := hopen k (by rw [hrs]; simp; omega) (by simpa [hrs, hk] using ho)
          rw [hrs] at this
          simp at this; omega
        · rw [List.mem_singleton.mp hx, JournalRecord.close_isOpenGap]
  · rename_i hroom
    split
    · rename_i hgap
      obtain ⟨hlen, hseq, hopen, hfull⟩ := h
      rcases List.eq_nil_or_concat j.records with hnil | ⟨rs, r, hrs⟩
      · simp [Journal.openGapNewest, hnil] at hgap
      · rw [List.concat_eq_append] at hrs
        have hr : r.isOpenGap = true := by simpa [Journal.openGapNewest, hrs] using hgap
        have hr' : (r.countIn e.onset).isOpenGap = true := by
          cases r <;> exact hr
        rw [hrs] at hlen hseq hopen
        rw [hrs, changeNewest_append]
        simp only [List.length_append, List.length_cons, List.length_nil] at hlen hseq hopen
        refine ⟨by simpa using hlen, fun k hk => ?_, fun k hk ho => ?_, fun _ => ?_⟩
        · simp only [List.length_append, List.length_cons, List.length_nil] at hk ⊢
          rw [← hseq k hk]
          rcases Nat.lt_or_ge k rs.length with hlt | hge
          · rw [List.getElem_append_left hlt, List.getElem_append_left hlt]
          · rw [List.getElem_append_right hge, List.getElem_append_right hge]
            simp
        · simp only [List.length_append, List.length_cons, List.length_nil] at hk ⊢
          rcases Nat.lt_or_ge k rs.length with hlt | hge
          · refine hopen k hk ?_
            rwa [List.getElem_append_left hlt] at ho ⊢
          · omega
        · simpa [Journal.openGapNewest] using hr'
    · rename_i hgap
      have hlen : j.records.length < 256 := by
        rcases Nat.lt_or_ge j.records.length 256 with hlt | hge
        · exact hlt
        · exact absurd (h.2.2.2 (Nat.le_antisymm h.1 hge)) hgap
      exact Journal.lawful_extended h rfl (Journal.closed_of_newest h (Bool.eq_false_iff.mpr hgap)) rfl hlen fun _ => rfl

/-- Records released from the oldest on keep the laws of the journal (R54). -/
theorem Journal.lawful_release {j : Journal} (h : j.lawful) (n : Nat) : (j.release n).lawful := by
  obtain ⟨hlen, hseq, hopen, hfull⟩ := h
  refine ⟨?_, fun k hk => ?_, fun k hk ho => ?_, fun hl => ?_⟩
  · simp only [Journal.release, List.length_drop]; omega
  · simp only [Journal.release, List.length_drop] at hk ⊢
    rw [List.getElem_drop, hseq (n + k) (by omega)]
    congr 2; omega
  · simp only [Journal.release, List.length_drop] at hk ho ⊢
    rw [List.getElem_drop] at ho
    have := hopen (n + k) (by omega) ho
    omega
  · simp only [Journal.release, List.length_drop] at hl
    have h0 : n = 0 := by omega
    subst h0
    simpa [Journal.release, Journal.openGapNewest] using hfull (by omega)

/-- A journal without records is lawful. -/
theorem Journal.lawful_of_empty {j : Journal} (h : j.records = []) : j.lawful := by
  unfold Journal.lawful
  rw [h]
  exact ⟨by simp, fun k hk => absurd hk (by simp), fun k hk => absurd hk (by simp), fun hl => by simp at hl⟩

/-- An advance of the clock, as a change of the clock, the filters, the sample of SAFE_N and the boot slot (R27, R30,
R171). -/
theorem State.tick_running {s : State} (h : s.held = false) :
    s.tick = { s with
      now := s.now + 1
      lines := Vector.ofFn fun i => s.lines[i].latch
      session := { s.session with safeN := { s.session.safeN with sampled := false } }
      store := { s.store with bootSlot :=
        if s.starting = true ∧ 2000 ≤ s.now + 1 then s.store.media.bootValue else s.store.bootSlot } } := by
  unfold State.tick
  rw [if_neg (by rw [h]; nofun)]
  unfold State.readSelector
  have hcond : ((State.latchSafeN (State.mapLines { s with now := s.now + 1 } fun _ l => l.latch)).starting &&
      decide (examineTime ≤ (State.latchSafeN (State.mapLines { s with now := s.now + 1 }
        fun _ l => l.latch)).now)) = decide (s.starting = true ∧ 2000 ≤ s.now + 1) := by
    simp only [Bool.decide_and, Bool.decide_eq_true, State.latchSafeN_now, State.mapLines_now]
    rfl
  rw [hcond]
  by_cases hb : s.starting = true ∧ 2000 ≤ s.now + 1
  · simp only [hb, and_self, decide_true, if_true]
    rfl
  · simp only [hb, decide_false, if_false, Bool.false_eq_true]
    rfl

/-- What a failsafe entry does not change (R144): the journal, the settle times, the clock and the pins. -/
theorem State.enterFailsafe_journal (s : State) (c : FailsafeCause) :
    (s.enterFailsafe c).journal = s.journal := by
  obtain ⟨link, -, h⟩ := State.enterFailsafe_eq s c
  rw [h]
  simp only [State.enteredFailsafe]

/-- What CLOSE in mode CLEAR makes of the state that mode KEEP leaves (R84, R128, R25). -/
theorem State.clearAll_eq (s : State) (h : s.session.state = .noSession) :
    s.clearAll = (({ s with
      lines := Vector.ofFn fun i =>
        { s.lines[i] with refs := s.lines[i].refs - s.schedule.entries.countP (·.action.names i) }
      schedule := { s.schedule with entries := [], outcomes := s.outcomesAfterAll (.cancelled .close) } } :
        State).standDownAll).dropAllClaims := by
  unfold State.clearAll
  rw [State.leaveAll_eq (.inr h)]

/-- Every operation of the part keeps the laws of the journal. -/
theorem Kept.journal : Kept (fun s => s.journal.lawful) where
  toLinkKept := .of_insensitive (fun _ _ h => h) (fun _ h => h)
  startUpReset := fun _ _ _ => Journal.lawful_of_empty rfl
  tick := fun s h hh => by rwa [State.tick_running hh]
  closeClear := fun s h _ => by
    rw [State.clearAll_eq _ (by simp [State.closeSession])]
    simpa [State.closeSession] using h
  enterFailsafe := fun s c h _ => by rwa [State.enterFailsafe_journal]
  append := fun s e bank h => Journal.lawful_append h e bank
  disarmReady := fun s h => Journal.lawful_congr h rfl rfl
  rearm := fun s h => Journal.lawful_congr h rfl rfl
  releaseRecords := fun s n h => Journal.lawful_release h n
  clearRecords := fun s _ => Journal.lawful_of_empty rfl
  setThreshold := fun s n h => Journal.lawful_congr h rfl rfl
  leave := fun s q e o h _ _ => by
    have := congrArg State.journal (State.leave_frame s e o)
    exact (show (s.leave e o).journal = s.journal from this) ▸ h
  endCommit := fun s p copy g a b c r h _ _ => by simpa [State.endCommit, State.finishStore, State.enqueue_eq]
  endErase := fun s p first a h _ => by simpa [State.endErase, State.finishStore, State.enqueue_eq]
  endBootWrite := fun s v copy g a b c r h _ => by
    simpa [State.endBootWrite, State.finishStore, State.enqueue_eq]
  endLoad := fun s p a r h _ => by simpa [State.finishStore, State.enqueue_eq]
  applyProfile := fun s p n g rs h _ _ => Journal.lawful_congr h rfl rfl

/-- Settles O31: each operation of the part keeps the laws of the journal, and a step is made of operations. -/
theorem journalLawsKept : Obligations.JournalLawsKept := fun _ _ h hs =>
  Kept.journal.step (fun _ _ h => h) (fun _ _ h => h) h hs

end Sys2Proof.Machine
end

/-! ### The laws of the lines (R4, R33) and the part held in reset (R189) -/

section
set_option Elab.async false
namespace Sys2Proof.Machine

/-- A line that keeps its configuration, claims and sensing is as lawful as before. -/
theorem Line.lawful_congr {l l' : Line} (h : l.lawful) (hc : l'.config = l.config)
    (hcl : l'.claims = l.claims) (hf : l'.filter.isSome = l.filter.isSome) (hg : l'.glitches ≤ 255) :
    l'.lawful := by
  unfold Line.lawful Line.isOutput Line.isSensed at *
  rw [hc, hcl, hf]
  exact ⟨h.1, h.2.1, hg⟩

/-- The base level set with its claim keeps a lawful line (R4, R15). -/
theorem Line.lawful_setBase {l : Line} (h : l.lawful) (level : Level) : (l.setBase level).lawful := by
  obtain ⟨h1, h0, h2, h3⟩ := l.lawful_iff.mp h
  refine (Line.lawful_iff _).mpr ⟨fun ho => ?_, fun ho => ?_, h2, h3⟩
  · simp only [Line.setBase, if_pos (show l.isOutput = true from ho)]; rfl
  · have hf : l.isOutput = false := ho
    simp only [Line.setBase, hf, Bool.false_eq_true, if_false]
    exact h0 hf

/-- A claim whose expiry has come is no BASE claim of a lawful line. -/
theorem Line.not_base_of_expired {l : Line} (h : l.lawful) {cls : ClaimClass} {now : Nat}
    (he : l.holds cls (·.expiredBy now) = true) : cls ≠ .base := by
  rintro rfl
  obtain ⟨h1, h0, -, -⟩ := l.lawful_iff.mp h
  cases ho : l.isOutput with
  | true => simp [Line.holds, ClaimSet.get, h1 ho, Claim.expiredBy, baseClaim] at he
  | false => simp [Line.holds, ClaimSet.get, h0 ho, ClaimSet.empty] at he

/-- A line after a start-up reset is lawful. -/
theorem Line.lawful_afterReset (circuit : Outside) : (Line.afterReset circuit).lawful :=
  ⟨rfl, rfl, Nat.zero_le _⟩

/-- A line at an advance of the clock is as lawful as before. -/
theorem Line.lawful_latch {l : Line} (h : l.lawful) : l.latch.lawful := by
  obtain ⟨-, -, hg⟩ := id h
  unfold Line.latch
  cases hf : l.filter with
  | none => exact h
  | some f => exact Line.lawful_congr h rfl rfl (by rw [hf]; rfl) hg

/-- A whole profile keeps the lines lawful (R26, R129). -/
theorem Line.lawful_underProfile {l : Line} (h : l.lawful) (c : LineConfig) (old new : Nat) :
    (l.underProfile c old new).lawful :=
  Line.lawful_drop (Line.lawful_configure h c) (cls := .trigger) (by nofun)

/-- `State.linesLawful`, as a law of the lines alone. -/
def AllLawful (lines : Vector Line 40) : Prop := ∀ i : LineNo, lines[i].lawful

/-- Every operation of the part keeps the laws of the lines. -/
theorem Kept.lines : Kept (fun s => AllLawful s.lines) where
  toLinkKept := .of_insensitive (fun _ _ h => h) (fun _ h => h)
  startUpReset := fun s c _ i => by
    simp only [State.startUpReset, Fin.getElem_fin, Vector.getElem_ofFn]
    exact Line.lawful_afterReset _
  tick := fun s h hh i => by
    rw [State.tick_running hh]
    simp only [Fin.getElem_fin, Vector.getElem_ofFn]
    exact Line.lawful_latch (h i)
  recover := fun s ms h _ _ i => by
    rw [State.recover, State.beginSession_lines, State.dropFailsafeClaims, State.mapLines_line]
    exact Line.lawful_drop (h i) (by nofun)
  closeClear := fun s h _ => by
    rw [State.clearAll_eq _ (by simp [State.closeSession])]
    refine State.linesLawful_mapLines (fun i => ?_) fun i l hl =>
      Line.lawful_drop (Line.lawful_drop (Line.lawful_drop hl (by nofun)) (by nofun)) (by nofun)
    simp only [State.standDownAll_lines, Fin.getElem_fin, Vector.getElem_ofFn]
    exact h i
  enterFailsafe := fun s c h _ i => by
    obtain ⟨link, -, he⟩ := State.enterFailsafe_eq s c
    rw [he]
    simp only [State.enteredFailsafe, Fin.getElem_fin, Vector.getElem_ofFn]
    have hl := Line.lawful_enterFailsafe (h i)
    refine Line.lawful_congr hl rfl ?_ rfl (h i).2.2
    rw [Line.enterFailsafe_claims]
    rfl
  circuit := fun s i circuit h => State.linesLawful_updateLine h i fun l hl => hl
  filter := fun s i f f' h hf j => by
    rw [State.updateLine_line]
    split
    · rename_i hij; subst hij
      exact Line.lawful_congr (h i) rfl rfl (by rw [hf]; rfl) (h i).2.2
    · exact h j
  glitch := fun s i f f' h hf j => by
    rw [State.updateLine_line]
    split
    · rename_i hij; subst hij
      exact Line.lawful_congr (h i) rfl rfl (by rw [hf]; rfl) (Nat.min_le_right _ _)
    · exact h j
  expire := fun s i cls h he j => by
    rw [State.updateLine_line]
    split
    · rename_i hij; subst hij
      exact Line.lawful_drop (h i) (Line.not_base_of_expired (h i) he)
    · exact h j
  configureLines := fun s xs h _ _ _ => by
    unfold State.configureLines
    refine State.linesLawful_mapLines h fun i l hl => ?_
    split
    · exact Line.lawful_configure hl _
    · exact hl
  setBases := fun s xs h => by
    unfold State.setBases
    refine State.linesLawful_mapLines h fun i l hl => ?_
    split
    · exact Line.lawful_setBase hl _
    · exact hl
  setSpecs := fun s xs h => by
    unfold State.setSpecs
    refine State.linesLawful_mapLines h fun i l hl => ?_
    split <;> exact hl
  pinLines := fun s xs h _ => by
    unfold State.pinLines
    refine State.linesLawful_mapLines h fun i l hl => ?_
    split
    · exact Line.lawful_place hl (by nofun) _
    · exact hl
  unpin := fun s picked h => by
    unfold State.unpin
    refine State.linesLawful_mapLines h fun i l hl => ?_
    split
    · exact Line.lawful_drop hl (by nofun)
    · exact hl
  clearGlitches := fun s i h => by
    unfold State.clearGlitches
    exact State.linesLawful_updateLine h i fun l hl =>
    Line.lawful_congr hl rfl rfl rfl (Nat.zero_le _)
  apply := fun s e h _ => by
    unfold State.applyAction
    exact State.linesLawful_applyTargets h (by nofun) _ _ _
  leave := fun s q e o h _ _ => State.linesLawful_leave h e o
  admitted := fun s body x h _ _ _ _ _ => by
    unfold State.admitted
    exact State.linesLawful_addRefs h _
  dropClaims := fun s cls test h hc => State.linesLawful_dropClaims h (by rcases hc with rfl | rfl <;> nofun) test
  applyTrigger := fun s k d expiry h _ _ => State.linesLawful_applyTargets h (by nofun) _ _ _
  define := fun s k d h _ _ i => by
    rw [State.define, State.setSlot_lines]
    exact State.linesLawful_addRefs (State.linesLawful_dropRefs h _) _ i
  deleteSlot := fun s k h i => by
    rw [State.setSlot_lines]
    exact State.linesLawful_dropRefs h _ i
  endCommit := fun s p copy g a b c r h _ _ => by
    rw [State.endCommit, State.finishStore, State.enqueue_eq]; exact h
  endErase := fun s p first a h _ => by rw [State.endErase, State.finishStore, State.enqueue_eq]; exact h
  endBootWrite := fun s v copy g a b c r h _ => by
    rw [State.endBootWrite, State.finishStore, State.enqueue_eq]; exact h
  endLoad := fun s p a r h _ => by rw [State.finishStore, State.enqueue_eq]; exact h
  applyProfile := fun s p n g rs h _ _ i => by
    simp only [State.applyProfile, Fin.getElem_fin, Vector.getElem_ofFn]
    exact Line.lawful_underProfile (h i) _ _ _

/-- Settles O57: each operation of the part keeps the laws of the lines, and a step is made of operations. -/
theorem lineLawsKept : Obligations.LineLawsKept := fun _ _ h hs =>
  Kept.lines.step (fun _ _ h => h) (fun _ _ h => h) h hs

/-! #### The part held in reset -/

/-- An operation of a running part leaves it running, for it changes none of the supply and RST_N. -/
theorem Kept.running : Kept (fun s => s.pins.supplyInRange = true ∧ ¬ s.pins.rstN = .low) where
  toLinkKept := .of_insensitive (fun _ _ h => h) (fun _ h => h)
  recover := fun s ms h _ _ => by simpa [State.recover, State.dropFailsafeClaims] using h
  startUpReset := fun _ _ h => h
  tick := fun s h hh => by rw [State.tick_running hh]; exact h
  closeClear := fun s h _ => by
    rw [State.clearAll_eq _ (by simp [State.closeSession])]
    exact h
  enterFailsafe := fun s c h _ => by
    obtain ⟨link, -, he⟩ := State.enterFailsafe_eq s c
    rw [he]; exact h
  leave := fun s q e o h _ _ => by
    have := congrArg State.pins (State.leave_frame s e o)
    exact (show (s.leave e o).pins = s.pins from this) ▸ h
  endCommit := fun s p copy g a b c r h _ _ => by
    rw [State.endCommit, State.finishStore, State.enqueue_eq]; exact h
  endErase := fun s p first a h _ => by rw [State.endErase, State.finishStore, State.enqueue_eq]; exact h
  endBootWrite := fun s v copy g a b c r h _ => by
    rw [State.endBootWrite, State.finishStore, State.enqueue_eq]; exact h
  endLoad := fun s p a r h _ => by rw [State.finishStore, State.enqueue_eq]; exact h
  applyProfile := fun s p n g rs h _ _ => h

/-- Every block is at its reset values, but for the supply and RST_N and what the SAFE_N filter and the link rate
have kept. -/
def State.AtReset (s : State) : Prop := ∃ pins : Pins, s = { s.atReset pins s.resetCause with pins := s.pins }

/-- A start-up reset leaves every block at its reset values. -/
theorem State.atReset_startUpReset (s : State) (c : ResetCause) : (s.startUpReset c).AtReset := by
  refine ⟨s.pins, ?_⟩
  have hl : (Vector.ofFn fun i : LineNo => (⟨⟨.park, .low, 0, .none, .base⟩, ⟨none, none, none, none, none⟩, 0, none, 0,
        (s.startUpReset c).lines[i].circuit⟩ : Line)) = (s.startUpReset c).lines := by
    simp only [State.startUpReset, Fin.getElem_fin, Vector.getElem_ofFn]
    rfl
  conv_lhs => rw [show s.startUpReset c = { s.startUpReset c with lines := (s.startUpReset c).lines } from rfl, ← hl]
  rfl

/-- The pins outside are no block of the part. -/
theorem State.AtReset.withPins {s : State} (h : s.AtReset) (p : Pins) : ({ s with pins := p } : State).AtReset := by
  obtain ⟨pins, hs⟩ := h
  exact ⟨pins, congrArg (fun u : State => { u with pins := p }) hs⟩

/-- Neither is the queue of commands. -/
theorem State.AtReset.withPending {s : State} (h : s.AtReset) (q : List Instr) :
    ({ s with pending := q } : State).AtReset := by
  obtain ⟨pins, hs⟩ := h
  exact ⟨pins, congrArg (fun u : State => { u with pending := q }) hs⟩

/-- Nor a circuit outside. -/
theorem State.AtReset.withCircuit {s : State} (h : s.AtReset) (i : LineNo) (circuit : Outside) :
    (s.updateLine i ({ · with circuit := circuit })).AtReset := by
  obtain ⟨pins, hs⟩ := h
  have hline : ∀ j : LineNo, s.lines[j] = Line.afterReset s.lines[j].circuit := by
    intro j
    have := congrArg (fun u : State => u.lines[j]) hs
    simp only [State.atReset, Fin.getElem_fin, Vector.getElem_ofFn] at this
    exact this
  refine ⟨pins, ?_⟩
  have hl : (Vector.ofFn fun j : LineNo => (⟨⟨.park, .low, 0, .none, .base⟩, ⟨none, none, none, none, none⟩, 0, none, 0,
        (s.updateLine i ({ · with circuit := circuit })).lines[j].circuit⟩ : Line)) =
      (s.updateLine i ({ · with circuit := circuit })).lines := by
    refine Vector.ext fun j hj => ?_
    rw [Vector.getElem_ofFn]
    have := State.updateLine_line (s := s) i ⟨j, hj⟩ ({ · with circuit := circuit })
    simp only [Fin.getElem_fin] at this ⊢
    rw [this]
    have hj' := hline ⟨j, hj⟩
    simp only [Fin.getElem_fin] at hj'
    split
    · rw [hj']; rfl
    · exact hj'.symm
  have h1 := congrArg (fun u : State => { u with lines := (s.updateLine i ({ · with circuit := circuit })).lines }) hs
  rw [← hl] at h1
  conv_lhs => rw [show s.updateLine i ({ · with circuit := circuit }) =
    { s with lines := (s.updateLine i ({ · with circuit := circuit })).lines } from rfl, ← hl]
  exact h1

/-- A command does nothing to a part held in reset, but for those of the pins (R189). -/
theorem exec_held {c : Instr} {s : State} (h : s.held = true) (hc : c.actsWhileHeld = false) :
    exec c s = .next s := by
  cases c with
  | powerOn | rstNAssert | rstNRelease | supplyBelowRange | rawChange | safeNChange => cases hc
  | unknownRequest seq kind body =>
    simp only [exec, execUnknownRequest]
    split
    · rfl
    · exact congrArg Host.Outcome.next (State.event_held h _)
  | _ => exact congrArg Host.Outcome.next (State.event_held h _)

/-- A circuit outside changes while the part is held in reset too. -/
theorem exec_rawChange_held {s : State} (h : s.held = true) (i : LineNo) (circuit : Outside) :
    exec (.rawChange i circuit) s = .next (s.updateLine i ({ · with circuit := circuit })) := by
  simp only [exec, execRawChange, h, if_true]

/-- The SAFE_N pin changes while the part is held in reset too. -/
theorem exec_safeNChange_held {s : State} (h : s.held = true) (level : Level) :
    exec (.safeNChange level) s = .next (s.withSafeNPin level) := by
  simp only [exec, execSafeNChange, h, if_true]

theorem State.held_iff (s : State) : s.held = true ↔ s.pins.supplyInRange = false ∨ s.pins.rstN = .low := by
  simp [State.held]

/-- A command leaves a part that is held in reset at its reset values. -/
theorem exec_heldLawful {c : Instr} {s t : State} (h : s.heldLawful) (he : exec c s = .next t) :
    t.heldLawful := by
  cases hc : Instr.isPower c with
  | true =>
    cases c with
    | powerOn => cases he; exact fun _ => State.atReset_startUpReset _ _
    | rstNAssert =>
      simp only [exec, execRstNAssert] at he
      split at he
      · cases he; exact h
      · split at he
        · cases he; exact fun _ => State.atReset_startUpReset _ _
        · rename_i hsupply
          cases he
          refine fun _ => State.AtReset.withPins (h ?_) _
          exact s.held_iff.mpr (.inl (Bool.eq_false_iff.mpr hsupply))
    | rstNRelease =>
      cases he
      refine fun ht => State.AtReset.withPins (h ?_) _
      exact s.held_iff.mpr (.inl (((State.held_iff _).mp ht).resolve_right (by simp)))
    | supplyBelowRange => cases he; exact fun _ => State.atReset_startUpReset _ _
    | _ => cases hc
  | false =>
    cases hh : s.held with
    | false =>
      have hrun := Kept.running.exec (s := s) (t := t) (by simpa [State.held] using hh) c hc he
      intro ht
      rcases t.held_iff.mp ht with h1 | h1
      · rw [hrun.1] at h1; cases h1
      · exact absurd h1 hrun.2
    | true =>
      cases ha : c.actsWhileHeld with
      | false => rw [exec_held hh ha] at he; cases he; exact h
      | true =>
        cases c with
        | rawChange i circuit =>
          rw [exec_rawChange_held hh] at he
          cases he
          exact fun _ => State.AtReset.withCircuit (h hh) i circuit
        | safeNChange level =>
          rw [exec_safeNChange_held hh] at he
          cases he
          exact fun _ => State.AtReset.withPins (h hh) _
        | powerOn | rstNAssert | rstNRelease | supplyBelowRange => cases hc
        | _ => cases ha

/-- Nothing is due in a part held in reset, and its clock stands (R189). -/
theorem step_heldLawful {s t : State} (h : s.heldLawful) (hs : step s = .next t) : t.heldLawful := by
  unfold step at hs
  split at hs
  · rename_i c rest _
    exact exec_heldLawful (s := { s with pending := rest })
      (fun hu => State.AtReset.withPending (h hu) rest) hs
  · split at hs
    · rename_i e u hnext
      refine exec_heldLawful ?_ hs
      unfold State.nextEvent at hnext
      split at hnext
      · split at hnext
        · cases hnext; exact h
        · simp at hnext
      · rename_i hdue
        intro hu
        cases hnext
        rw [dueEvents, if_pos (show s.held = true from hu)] at hdue
        cases hdue
    · cases hs
      cases hh : s.held with
      | true => rwa [State.tick, if_pos hh]
      | false =>
        intro ht
        rw [State.tick_running hh] at ht
        exact absurd (hh.symm.trans ht) (by nofun)

/-- Settles O3: a command of a held part is no event, and a start-up reset is what a hold begins with. -/
theorem partHeldInReset : Obligations.PartHeldInReset :=
  ⟨State.held_iff, fun _ _ => exec_held, fun i circuit _ h => exec_rawChange_held h i circuit,
    fun level _ h => exec_safeNChange_held h level, fun _ _ => step_heldLawful⟩

end Sys2Proof.Machine
end

/-! ### The bounds of the link, of the outcome list and of the staging list (R78, R154, R178, R182, R183) -/

section
set_option Elab.async false
namespace Sys2Proof.Machine

/-! #### The operations of the link -/

theorem bump16_le (n : Nat) : bump16 n ≤ 65535 := Nat.min_le_right _ _

/-- A link with no other framer than before, or none, with no more waiting bytes, and with its lists and counters
within their bounds, is lawful. -/
theorem Link.lawful_of {l l' : Link} (h : l.lawful) (hframer : l'.framer = l.framer ∨ l'.framer = .hunting)
    (hwaiting : (l'.waiting.map Frame.size).sum ≤ (l.waiting.map Frame.size).sum)
    (hnotices : l'.notices.length ≤ 12)
    (hflight : l'.inFlight.count ≤ 4 ∧ (l'.inFlight.due = true → l'.inFlight.count ≤ 3))
    (hcounters : l'.lost ≤ 65535 ∧ l'.crcErrors ≤ 65535 ∧ l'.framingErrors ≤ 65535 ∧ l'.overruns ≤ 65535) :
    l'.lawful := by
  obtain ⟨h1, h2, -⟩ := h
  refine ⟨?_, ?_, hnotices, hflight.1, hflight.2, hcounters⟩
  · rcases hframer with hf | hf
    · rwa [hf]
    · rw [hf]; trivial
  · unfold Link.bufferBytes at *
    rcases hframer with hf | hf
    · rw [hf]; omega
    · rw [hf]; dsimp only; omega

/-- The parts of a lawful link that the operations of the notices leave as they are. -/
theorem Link.lawful.flight {l : Link} (h : l.lawful) :
    l.inFlight.count ≤ 4 ∧ (l.inFlight.due = true → l.inFlight.count ≤ 3) := ⟨h.2.2.2.1, h.2.2.2.2.1⟩

theorem Link.lawful.counters {l : Link} (h : l.lawful) :
    l.lost ≤ 65535 ∧ l.crcErrors ≤ 65535 ∧ l.framingErrors ≤ 65535 ∧ l.overruns ≤ 65535 := h.2.2.2.2.2

theorem Link.lawful.notices {l : Link} (h : l.lawful) : l.notices.length ≤ 12 := h.2.2.1

theorem Link.lawful_goInFlight {l : Link} (h : l.lawful) : l.goInFlight.lawful := by
  refine Link.lawful_of h (.inl rfl) (le_refl _) h.notices ?_ h.counters
  unfold Link.goInFlight
  split <;> simp [InFlight.none]

theorem Link.lawful_dropOldest {l : Link} (h : l.lawful) : l.dropOldest.lawful := by
  refine Link.lawful_goInFlight (l := { l with notices := l.notices.tail })
    (Link.lawful_of h (.inl rfl) (le_refl _) ?_ h.flight h.counters)
  have := h.notices
  simp only [List.length_tail]; omega

theorem Link.lawful_loseNotice {l : Link} (h : l.lawful) : l.loseNotice.lawful :=
  Link.lawful_of h (.inl rfl) (le_refl _) h.notices h.flight
    ⟨bump16_le _, h.counters.2⟩

theorem Link.lawful_enqueue {l : Link} (h : l.lawful) (c : NoticeContent) : (l.enqueue c).lawful := by
  unfold Link.enqueue
  split
  · have h' : ({ l with
        notices := l.notices ++ [⟨l.nextNumber, l.lossMark, c⟩]
        nextNumber := nextNoticeNumber l.nextNumber, lossMark := false } : Link).lawful :=
      Link.lawful_of h (.inl rfl) (le_refl _) (by simp; omega) h.flight h.counters
    dsimp only
    split
    · exact Link.lawful_goInFlight h'
    · exact h'
  · exact Link.lawful_loseNotice h

theorem Link.lawful_emptyNotices {l : Link} (h : l.lawful) : l.emptyNotices.lawful :=
  Link.lawful_goInFlight (l := { l with notices := [], lossMark := false })
    (Link.lawful_of h (.inl rfl) (le_refl _) (Nat.zero_le _) h.flight h.counters)

theorem Link.lawful_arbitrate {l : Link} (h : l.lawful) (now : Nat) : (l.arbitrate now).lawful := by
  have hreply : ∀ r, (l.startReply r now).lawful := fun r =>
    Link.lawful_of h (.inl rfl) (le_refl _) h.notices h.flight h.counters
  have hnotice : ∀ n, l.readyNotice = some n → (l.startNotice n now).lawful := by
    intro n hn
    have hdue : l.inFlight.due = true := by
      unfold Link.readyNotice at hn
      split at hn
      · exact (Bool.and_eq_true_iff.mp ‹_›).1
      · simp at hn
    refine Link.lawful_of h (.inl rfl) (le_refl _) h.notices ⟨?_, nofun⟩ h.counters
    have := h.flight.2 hdue
    simp only [Link.startNotice]; omega
  unfold Link.arbitrate
  repeat' split
  all_goals first | exact hreply _ | exact hnotice _ ‹_› | exact h

/-- A framer that gives up its partial frame. -/
theorem Link.lawful_hunting {l : Link} (h : l.lawful) : ({ l with framer := .hunting } : Link).lawful :=
  Link.lawful_of h (.inr rfl) (le_refl _) h.notices h.flight h.counters

theorem Link.lawful_framingError {l : Link} (h : l.lawful) : l.framingError.lawful :=
  Link.lawful_of h (.inr rfl) (le_refl _) h.notices h.flight
    ⟨h.counters.1, h.counters.2.1, bump16_le _, h.counters.2.2.2⟩

theorem Link.lawful_crcError {l : Link} (h : l.lawful) : l.crcError.lawful :=
  Link.lawful_of h (.inr rfl) (le_refl _) h.notices h.flight
    ⟨h.counters.1, bump16_le _, h.counters.2.2⟩

theorem Link.lawful_overrun {l : Link} (h : l.lawful) : l.overrun.lawful :=
  Link.lawful_of h (.inr rfl) (le_refl _) h.notices h.flight
    ⟨h.counters.1, h.counters.2.1, h.counters.2.2.1, bump16_le _⟩

theorem Link.lawful_heard {l : Link} (h : l.lawful) (now : Nat) : (l.heard now).lawful :=
  Link.lawful_of h (.inl rfl) (le_refl _) h.notices h.flight h.counters

theorem Link.lawful_characterFault {l : Link} (h : l.lawful) (now : Nat) : (l.characterFault now).lawful :=
  Link.lawful_of (Link.lawful_framingError h) (.inl rfl) (le_refl _) h.notices h.flight
    (Link.lawful_framingError h).counters

theorem Link.lawful_atBreak {l : Link} (h : l.lawful) (now : Nat) : (l.atBreak now).lawful :=
  Link.lawful_of h (.inr rfl) (Nat.zero_le _) h.notices ⟨Nat.zero_le _, fun _ => Nat.zero_le _⟩
    h.counters

theorem Link.lawful_endBreak {l : Link} (h : l.lawful) (now : Nat) : (l.endBreak now).lawful :=
  Link.lawful_goInFlight (l := { l.deafened now with breakSince := none, rxd := .low now })
    (Link.lawful_of h (.inl rfl) (le_refl _) h.notices h.flight h.counters)

theorem Link.lawful_endTransmission {l : Link} (h : l.lawful) : l.endTransmission.lawful :=
  Link.lawful_of h (.inl rfl) (le_refl _) h.notices h.flight h.counters

theorem Link.lawful_endNotice {l : Link} (h : l.lawful) (f : Frame) (now : Nat) :
    (l.endNotice f now).lawful := by
  unfold Link.endNotice
  dsimp only
  repeat' split
  · exact Link.lawful_of h (.inl rfl) (le_refl _) h.notices h.flight h.counters
  · exact Link.lawful_endTransmission h
  · exact Link.lawful_endTransmission h

theorem Link.lawful_retransmit {l : Link} (h : l.lawful) : l.retransmit.lawful := by
  unfold Link.retransmit
  split
  · refine Link.lawful_of h (.inl rfl) (le_refl _) h.notices ⟨h.flight.1, fun _ => ?_⟩
      h.counters
    dsimp only; omega
  · exact Link.lawful_loseNotice (Link.lawful_dropOldest h)

theorem Link.lawful_takeAck {l : Link} (h : l.lawful) (body : List Byte) : (l.takeAck body).lawful := by
  unfold Link.takeAck Link.acknowledge
  repeat' split
  all_goals first | exact Link.lawful_dropOldest h | exact h

/-- An empty notice queue stays so under an acknowledgement, a transmission's end and a retransmission. -/
theorem Link.takeAck_notices {l : Link} (h : l.notices = []) (body : List Byte) :
    (l.takeAck body).notices = [] := by
  unfold Link.takeAck Link.acknowledge
  rw [h]
  repeat' split
  all_goals first | exact h | simp_all

theorem Link.endNotice_notices (l : Link) (f : Frame) (now : Nat) :
    (l.endNotice f now).notices = l.notices := by
  unfold Link.endNotice
  dsimp only
  repeat' split
  all_goals rfl

theorem Link.arbitrate_notices (l : Link) (now : Nat) : (l.arbitrate now).notices = l.notices := by
  unfold Link.arbitrate
  repeat' split
  all_goals rfl

theorem Link.retransmit_notices {l : Link} (h : l.notices = []) : l.retransmit.notices = [] := by
  unfold Link.retransmit
  split
  · exact h
  · simp [Link.loseNotice, Link.dropOldest, Link.goInFlight, h]

/-! #### The framer -/

/-- The bytes that a framer's partial frame and one character more are, when they are no whole frame (R175). -/
theorem Framer.lawful_store {bs : List Byte} {since : Nat} {ch : Byte} (h : (Framer.receiving bs since).lawful)
    (hs : (Framer.receiving bs since).stores ch = true) (hw : bs.length + 1 ≠ wholeLength (bs ++ [ch]))
    (now : Nat) : (Framer.receiving (bs ++ [ch]) now).lawful := by
  obtain ⟨h1, h2⟩ := h
  refine ⟨by simp, fun _ => ?_⟩
  rcases Nat.lt_or_ge 1 bs.length with hl | hl
  · obtain ⟨hbad, hlt⟩ := h2 hl
    have hsame : (bs ++ [ch]).getD 1 0 = bs.getD 1 0 := by
      simp [List.getD_eq_getElem?_getD, List.getElem?_append_left hl]
    unfold wholeLength at *
    rw [hsame] at hw ⊢
    refine ⟨hbad, ?_⟩
    simp only [List.length_append, List.length_cons, List.length_nil]; omega
  · obtain ⟨b, rfl⟩ := List.length_eq_one_iff.mp (Nat.le_antisymm hl h1)
    simp only [Framer.stores, List.length_cons, List.length_nil, Nat.zero_add, decide_true, Bool.true_and,
      Bool.not_eq_true'] at hs
    refine ⟨hs, ?_⟩
    simp [wholeLength]

/-- A whole frame has the bytes that the buffer held of it (R173, R174). -/
theorem Frame.size_ofBytes {bs : List Byte} {f : Frame} (hl : 6 ≤ bs.length) (h : Frame.ofBytes bs = some f) :
    f.size = bs.length := by
  unfold Frame.ofBytes at h
  dsimp only at h
  split at h
  · cases h
    simp only [Frame.size, List.length_drop, List.length_take]
    omega
  · cases h

/-! #### The bounds of the part -/

/-- The bounds of `State.bounded`, without the transmitter's. -/
def State.Bounds (s : State) : Prop :=
  s.link.lawful ∧ (s.session.state = .noSession → s.link.notices = []) ∧
    s.schedule.outcomes.length ≤ 16 ∧ s.store.staging.records.length ≤ 32

theorem State.Bounds.withLink {s : State} (h : s.Bounds) {l : Link} (hl : l.lawful)
    (hn : s.link.notices = [] → l.notices = []) : ({ s with link := l } : State).Bounds :=
  ⟨hl, fun hs => hn (h.2.1 hs), h.2.2⟩

theorem State.Bounds.enqueue {s : State} (h : s.Bounds) (c : NoticeContent) : (s.enqueue c).Bounds := by
  rw [State.enqueue_eq]
  split
  · exact h
  · exact ⟨Link.lawful_enqueue h.1 c, fun hs => absurd hs ‹_›, h.2.2⟩

theorem State.Bounds.frameArrives {s : State} (h : s.Bounds) {f : Frame}
    (hf : (s.link.waiting.map Frame.size).sum + f.size ≤ 512) : (s.frameArrives f).Bounds := by
  unfold State.frameArrives
  rw [State.renewLease_renewedAt]
  have hlink : ({ s.link with framer := .hunting, rxd := .high s.now } : Link).lawful :=
    Link.lawful_heard (Link.lawful_hunting h.1) s.now
  dsimp only
  split
  · refine ⟨Link.lawful_takeAck hlink _, fun hs => Link.takeAck_notices ?_ _, h.2.2⟩
    exact h.2.1 (by simpa using hs)
  · obtain ⟨-, -, hrest⟩ := hlink
    refine ⟨⟨trivial, ?_, hrest⟩, fun hs => h.2.1 (by simpa using hs), h.2.2⟩
    simp only [Link.bufferBytes, List.map_append, List.map_cons, List.map_nil, List.sum_append, List.sum_cons,
      List.sum_nil]
    omega

theorem State.Bounds.receive {s : State} (h : s.Bounds) (ch : Byte) : (s.receive ch).Bounds := by
  have hst : ∀ t : State, t.Bounds → t.link.framer.stores ch = true → (t.storeCharacter ch).Bounds := by
    intro t ht hstores
    unfold State.storeCharacter
    split
    · exact ht.withLink (Link.lawful_overrun ht.1) id
    · rename_i hroom
      split
      · rename_i hf
        refine ht.withLink ?_ id
        obtain ⟨-, hbuf, hrest⟩ := ht.1
        refine ⟨⟨by simp, fun h2 => by simp at h2⟩, ?_, hrest⟩
        simp only [Link.bufferBytes, hf, List.length_cons, List.length_nil] at hroom ⊢
        omega
      · rename_i bs since hf
        have hlaw := ht.1.1
        rw [hf] at hlaw hstores
        split
        · rename_i hwhole
          unfold State.wholeFrame
          split
          · rename_i f hof
            refine ht.frameArrives ?_
            have hlen : bs.length + 1 = (bs ++ [ch]).length := by simp
            have h6 : 6 ≤ (bs ++ [ch]).length := by
              rcases Nat.lt_or_ge 1 bs.length with hl | hl
              · obtain ⟨hbad, -⟩ := hlaw.2 hl
                have hsame : (bs ++ [ch]).getD 1 0 = bs.getD 1 0 := by
                  simp [List.getD_eq_getElem?_getD, List.getElem?_append_left hl]
                simp only [badLen, Bool.or_eq_false_iff, decide_eq_false_iff_not] at hbad
                unfold wholeLength at hwhole
                rw [hsame] at hwhole
                omega
              · have hl1 := hlaw.1
                unfold wholeLength at hwhole
                omega
            rw [Frame.size_ofBytes h6 hof]
            simp only [Link.bufferBytes, hf] at hroom
            omega
          · exact ht.withLink (Link.lawful_crcError ht.1) id
        · rename_i hwhole
          refine ht.withLink ?_ id
          obtain ⟨-, hbuf, hrest⟩ := ht.1
          refine ⟨Framer.lawful_store hlaw hstores hwhole _, ?_, hrest⟩
          simp only [Link.bufferBytes, hf, List.length_append, List.length_cons, List.length_nil] at hroom ⊢
          omega
  have hh : (s.withLink (s.link.heard s.now)).Bounds := h.withLink (Link.lawful_heard h.1 _) id
  unfold State.receive State.examine
  split
  · split
    · exact hst _ hh ‹_›
    · split
      · exact hh
      · exact hh.withLink (Link.lawful_framingError hh.1) id
  · exact h

theorem State.Bounds.leave {s : State} (h : s.Bounds) (e : Entry) (o : EntryOutcome) : (s.leave e o).Bounds := by
  refine State.leave_keeps State.Bounds (fun t e o ht => ?_) (fun t id time ht => ht) s e o h
  have hleft : ({ t with schedule := t.schedule.leave e (e.record o t.now) } : State).Bounds :=
    ⟨ht.1, ht.2.1, appendOutcome_length _ _, ht.2.2.2⟩
  have hrefs : (State.dropRefs { t with schedule := t.schedule.leave e (e.record o t.now) } e.action.names).Bounds := by
    simpa [State.Bounds, State.dropRefs] using hleft
  unfold State.leaveAlone
  dsimp only
  split
  · exact hrefs.enqueue _
  · exact hrefs

theorem Staging.discard_records (g : Staging) : g.discard.records.length ≤ g.records.length := by
  cases g <;> simp [Staging.discard, Staging.records]

/-- Every operation of the Link Port keeps the bounds. -/
theorem LinkKept.bounds : LinkKept State.Bounds where
  enqueue := fun s c h => h.enqueue c
  arbitrate := fun s h => h.withLink (Link.lawful_arbitrate h.1 _) fun hn => by rwa [Link.arbitrate_notices]
  arrives := fun s f h hf => h.frameArrives (of_decide_eq_true (Bool.and_eq_true_iff.mp hf).2)
  popWaiting := fun s h => by
    refine h.withLink (Link.lawful_of h.1 (.inl rfl) ?_ h.1.notices h.1.flight h.1.counters) id
    cases hw : s.link.waiting <;> simp
  withReply := fun s r h =>
    h.withLink (Link.lawful_of h.1 (.inl rfl) (le_refl _) h.1.notices h.1.flight h.1.counters) id
  withCache := fun s f r h =>
    h.withLink (Link.lawful_of h.1 (.inl rfl) (le_refl _) h.1.notices h.1.flight h.1.counters) id
  resetAfterReply := fun s h =>
    h.withLink (Link.lawful_of h.1 (.inl rfl) (le_refl _) h.1.notices h.1.flight h.1.counters) id
  receive := fun s ch h => h.receive ch
  crcError := fun s h => h.withLink (Link.lawful_crcError (Link.lawful_heard h.1 _)) id
  badLen := fun s h => h.withLink (Link.lawful_framingError (Link.lawful_heard h.1 _)) id
  gap := fun s h => h.withLink (Link.lawful_framingError h.1) id
  characterFault := fun s h => h.withLink (Link.lawful_characterFault h.1 _) id
  overrun := fun s h => h.withLink (Link.lawful_overrun (Link.lawful_heard h.1 _)) id
  atBreak := fun s h => h.withLink (Link.lawful_atBreak h.1 _) id
  endBreak := fun s h => h.withLink (Link.lawful_endBreak h.1 _) id
  endTransmission := fun s h => h.withLink (Link.lawful_endTransmission h.1) id
  endNotice := fun s f h => h.withLink (Link.lawful_endNotice h.1 f _) fun hn => by rwa [Link.endNotice_notices]
  retransmit := fun s h => h.withLink (Link.lawful_retransmit h.1) Link.retransmit_notices

/-- The bounds speak of the link, the session state, the outcome list and the staging list alone. -/
theorem State.Bounds.congr {s t : State} (h : s.Bounds) (hl : t.link = s.link)
    (hs : t.session.state = s.session.state) (ho : t.schedule.outcomes = s.schedule.outcomes)
    (hst : t.store.staging = s.store.staging) : t.Bounds := by
  unfold State.Bounds
  rw [hl, hs, ho, hst]
  exact h

/-- The end of a store operation that leaves the staging list within its bound keeps the bounds. -/
theorem State.Bounds.finishStore {s : State} (h : s.Bounds) {store : Store}
    (hs : store.staging.records.length ≤ 32) (op : StoreOp) (slot : Option ProfileNo) (r : StoreResult) :
    (State.finishStore { s with store := store } op slot r).Bounds :=
  State.Bounds.enqueue (s := { s with store := { store with
    operation := .none, lastResult := some ⟨op, slot, r, s.now⟩ } }) ⟨h.1, h.2.1, h.2.2.1, hs⟩ _

/-- A start-up reset leaves a part within its bounds. -/
theorem State.bounds_startUpReset (s : State) (c : ResetCause) : (s.startUpReset c).Bounds :=
  ⟨⟨trivial, by simp [State.startUpReset, Link.afterReset, Link.bufferBytes], Nat.zero_le _, Nat.zero_le _, nofun,
    Nat.zero_le _, Nat.zero_le _, Nat.zero_le _, Nat.zero_le _⟩, fun _ => rfl, Nat.zero_le _, Nat.zero_le _⟩

/-- A CLOSE leaves a part within its bounds, without a notice. -/
theorem State.Bounds.close {s : State} (h : s.Bounds) : s.closeSession.Bounds :=
  ⟨Link.lawful_emptyNotices h.1, fun _ => rfl, h.2.2.1,
    (Staging.discard_records s.store.staging).trans h.2.2.2⟩

theorem State.Bounds.closeClear {s : State} (h : s.Bounds) : s.closeSession.clearAll.Bounds := by
  obtain ⟨h1, h2, h3, h4⟩ := h.close
  rw [State.clearAll_eq _ (by simp [State.closeSession])]
  refine ⟨?_, ?_, ?_, ?_⟩
  · simpa [State.dropAllClaims] using h1
  · simpa [State.dropAllClaims] using h2
  · simpa [State.dropAllClaims] using State.outcomesAfterAll_length h3 (.cancelled .close)
  · simpa [State.dropAllClaims] using h4

/-- The links that a failsafe entry may leave are lawful. -/
theorem State.entryLinks_lawful {s : State} (h : s.link.lawful) {c : FailsafeCause} {link : Link}
    (hl : link ∈ s.entryLinks c) : link.lawful := by
  unfold State.entryLinks at hl
  split at hl
  · rcases List.mem_pair.mp hl with rfl | rfl
    · exact Link.lawful_enqueue (Link.lawful_enqueue h _) _
    · exact Link.lawful_enqueue (Link.lawful_enqueue h _) _
  · rw [List.mem_singleton.mp hl]
    exact Link.lawful_enqueue h _

theorem State.Bounds.enterFailsafe {s : State} (h : s.Bounds) (c : FailsafeCause) :
    (s.enterFailsafe c).Bounds := by
  obtain ⟨link, hlink, he⟩ := State.enterFailsafe_eq s c
  rw [he]
  refine ⟨State.entryLinks_lawful h.1 hlink, nofun, State.outcomesAfterAll_length h.2.2.1 _, ?_⟩
  have hd := (Staging.discard_records s.store.staging).trans h.2.2.2
  simp only [State.enteredFailsafe]
  split <;> exact hd

/-- Every operation of the part keeps the bounds. -/
theorem Kept.bounds : Kept State.Bounds where
  toLinkKept := .bounds
  drawn := fun s h => h
  resampleStraps := fun s h => h
  startUpReset := fun s c _ => State.bounds_startUpReset s c
  safeNPin := fun s level h => h
  tick := fun s h hh => by rw [State.tick_running hh]; exact h
  beginSession := fun s ms h _ _ => ⟨h.1, nofun, h.2.2⟩
  recover := fun s ms h _ _ => by
    unfold State.recover
    refine ⟨?_, nofun, ?_⟩
    · simpa [State.dropFailsafeClaims] using h.1
    · simpa [State.dropFailsafeClaims] using h.2.2
  renew := fun s lease h _ => h
  close := fun s h _ => h.close
  closeClear := fun s h _ => h.closeClear
  enterFailsafe := fun s c h _ => h.enterFailsafe c
  addLineCause := fun s h _ => h
  safeN := fun s f h => h
  disarmWarning := fun s h => h
  circuit := fun s i circuit h => h
  filter := fun s i f f' h _ => h
  glitch := fun s i f f' h _ => h
  expire := fun s i cls h _ => h
  configureLines := fun s xs h _ _ _ => h.congr (by simp) (by simp) (by simp) (by simp)
  setBases := fun s xs h => h.congr (by simp) (by simp) (by simp) (by simp)
  setSpecs := fun s xs h => h.congr (by simp) (by simp) (by simp) (by simp)
  pinLines := fun s xs h _ => h.congr (by simp) (by simp) (by simp) (by simp)
  unpin := fun s picked h => h.congr (by simp) (by simp) (by simp) (by simp)
  clearGlitches := fun s i h => h.congr (by simp) (by simp) (by simp) (by simp)
  setSettleTimes := fun s v h => h
  append := fun s e bank h => h
  disarmReady := fun s h => h
  rearm := fun s h => h
  releaseRecords := fun s n h => h
  clearRecords := fun s h => h
  setThreshold := fun s n h => h
  apply := fun s e h _ => by
    unfold State.applyAction
    exact h.congr (by simp) (by simp) (by simp) (by simp)
  leave := fun s q e o h _ _ => h.leave e o
  put := fun s q e h _ _ _ => h
  admitted := fun s body x h _ _ _ _ _ => by
    unfold State.admitted
    exact h.congr (by simp) (by simp) (by simp) (by simp)
  dropClaims := fun s cls test h _ => h.congr (by simp) (by simp) (by simp) (by simp)
  clearOutcomes := fun s h => ⟨h.1, h.2.1, Nat.zero_le _, h.2.2.2⟩
  applyTrigger := fun s k d expiry h _ _ => h.congr (by simp) (by simp) (by simp) (by simp)
  slot := fun s k slot h _ _ => h
  define := fun s k d h _ _ => by
    unfold State.define
    exact h.congr (by simp) (by simp) (by simp) (by simp)
  deleteSlot := fun s k h => h.congr (by simp) (by simp) (by simp) (by simp)
  staging := fun s st h _ hst => ⟨h.1, h.2.1, h.2.2.1, hst⟩
  startCommit := fun s p rs h hst _ => by
    refine ⟨h.1, h.2.1, h.2.2.1, ?_⟩
    have := h.2.2.2
    rwa [hst] at this
  startLoad := fun s p t h _ _ _ => h
  startErase := fun s p h _ => h
  startBootWrite := fun s v h _ => h
  endCommit := fun s p copy g a b c r h _ _ => by
    unfold State.endCommit
    exact h.finishStore (Nat.zero_le _) _ _ _
  endEraseStep := fun s p first a h _ => h
  endErase := fun s p first a h _ => by
    unfold State.endErase
    refine h.finishStore ?_ _ _ _
    exact h.2.2.2
  endBootWrite := fun s v copy g a b c r h _ => by
    unfold State.endBootWrite
    refine h.finishStore ?_ _ _ _
    exact h.2.2.2
  endLoad := fun s p a r h _ => h.finishStore h.2.2.2 _ _ _
  applyProfile := fun s p n g rs h _ _ => h.congr rfl rfl rfl rfl
  boot := fun s r h _ => h

/-! #### The transmitter has nothing to choose -/

/-- A command of a running part, but for those of the pins, ends with the transmitter's choice, or changes nothing
(R181). -/
theorem exec_arbitrated {c : Instr} {s t : State} (hc : Instr.isPower c = false) (h : s.held = false)
    (he : exec c s = .next t) : t = s ∨ ∃ u : State, t = u.arbitrate := by
  cases c with
  | powerOn | rstNAssert | rstNRelease | supplyBelowRange => cases hc
  | unknownRequest seq kind body =>
    simp only [exec, execUnknownRequest] at he
    split at he
    · cases he; exact .inl rfl
    · cases he; exact .inr ⟨_, State.event_running h _⟩
  | rawChange i circuit =>
    simp only [exec, execRawChange, h, Bool.false_eq_true, if_false] at he
    cases he; exact .inr ⟨_, State.event_running h _⟩
  | safeNChange level =>
    simp only [exec, execSafeNChange, h, Bool.false_eq_true, if_false] at he
    cases he; exact .inr ⟨_, State.event_running h _⟩
  | _ => cases he; exact .inr ⟨_, State.event_running h _⟩

/-- A command leaves the transmitter nothing to choose. -/
theorem exec_settled {c : Instr} {s t : State} (h : s.link.settled) (he : exec c s = .next t) :
    t.link.settled := by
  have hreset : ∀ (u : State) (x : ResetCause), (u.startUpReset x).link.settled := fun u x _ => ⟨rfl, rfl⟩
  cases hc : Instr.isPower c with
  | true =>
    cases c with
    | powerOn => cases he; exact hreset _ _
    | rstNAssert =>
      simp only [exec, execRstNAssert] at he
      repeat' split at he
      · cases he; exact h
      · cases he; exact hreset _ _
      · cases he; exact h
    | rstNRelease => cases he; exact h
    | supplyBelowRange => cases he; exact hreset _ _
    | _ => cases hc
  | false =>
    cases hh : s.held with
    | false =>
      rcases exec_arbitrated hc hh he with rfl | ⟨u, rfl⟩
      · exact h
      · exact Link.arbitrate_settled _ _
    | true =>
      cases ha : c.actsWhileHeld with
      | false => rw [exec_held hh ha] at he; cases he; exact h
      | true =>
        cases c with
        | rawChange i circuit => rw [exec_rawChange_held hh] at he; cases he; exact h
        | safeNChange level => rw [exec_safeNChange_held hh] at he; cases he; exact h
        | powerOn | rstNAssert | rstNRelease | supplyBelowRange => cases hc
        | _ => cases ha

/-- A step leaves the transmitter nothing to choose. -/
theorem step_settled {s t : State} (h : s.link.settled) (hs : step s = .next t) : t.link.settled := by
  unfold step at hs
  split at hs
  · rename_i c rest _
    exact exec_settled (s := { s with pending := rest }) h hs
  · split at hs
    · rename_i e u hnext
      refine exec_settled ?_ hs
      unfold State.nextEvent at hnext
      repeat' split at hnext
      · cases hnext; exact h
      · simp at hnext
      · cases hnext; exact h
    · cases hs
      cases hh : s.held with
      | true => rwa [State.tick, if_pos hh]
      | false => rw [State.tick_running hh]; exact h

/-- Settles O58: each operation of the part keeps the bounds, and every event ends with the transmitter's choice. -/
theorem boundsKept : Obligations.BoundsKept := by
  intro s t ⟨hlink, hsettled, hnotices, houtcomes, hstaging⟩ hs
  obtain ⟨h1, h2, h3, h4⟩ := Kept.bounds.step (fun _ _ h => h) (fun _ _ h => h)
    ⟨hlink, hnotices, houtcomes, hstaging⟩ hs
  exact ⟨h1, step_settled hsettled hs, h2, h3, h4⟩

end Sys2Proof.Machine
end

/-! ### The laws of failsafe (R23, R85, R127, R144, R149, R165) -/

section
set_option Elab.async false
namespace Sys2Proof.Machine

/-- `State.failsafeLawful`, as a law of the blocks that it speaks of. -/
def FailsafeLaw (m : Session) (lines : Vector Line 40) (entries : List Entry) (slots : Vector Slot 16)
    (store : Store) : Prop :=
  (m.state = .failsafe →
    (∀ i : LineNo, lines[i].swept) ∧ entries = [] ∧ (∀ k : SlotNo, slots[k].running = false) ∧
      store.operation.isLoading = false ∧ m.record.isSome = true ∧ m.deadline = none) ∧
  (m.state ≠ .failsafe → ∀ i : LineNo, lines[i].claims.failsafe = none) ∧
  ((store.bootResult == .inProgress) = true → m.state = .noSession)

/-- The law of a part, in the terms of `FailsafeLaw`. -/
abbrev State.FailsafeLaw (s : State) : Prop :=
  Machine.FailsafeLaw s.session s.lines s.schedule.entries s.slots s.store

section
variable {m m' : Session} {lines lines' : Vector Line 40} {entries entries' : List Entry}
  {slots slots' : Vector Slot 16} {store store' : Store}

/-- Outside FAILSAFE the law asks of the lines that none holds a FAILSAFE claim. -/
theorem FailsafeLaw.outside (h : m.state ≠ .failsafe) (hl : ∀ i : LineNo, lines[i].claims.failsafe = none)
    (hs : (store.bootResult == .inProgress) = true → m.state = .noSession) :
    FailsafeLaw m lines entries slots store := ⟨fun hf => absurd hf h, fun _ => hl, hs⟩

/-- Lines that gain no claim but BASE keep the law. -/
theorem FailsafeLaw.withLines (h : FailsafeLaw m lines entries slots store)
    (hswept : ∀ i : LineNo, lines[i].swept → lines'[i].swept)
    (hfailsafe : ∀ i : LineNo, lines[i].claims.failsafe = none → lines'[i].claims.failsafe = none) :
    FailsafeLaw m lines' entries slots store := by
  refine ⟨fun hf => ?_, fun hf i => hfailsafe i (h.2.1 hf i), h.2.2⟩
  obtain ⟨h1, h2⟩ := h.1 hf
  exact ⟨fun i => hswept i (h1 i), h2⟩

/-- A part with a queued entry, or with a LOAD in flight, is not in FAILSAFE. -/
theorem FailsafeLaw.not_failsafe_of_mem (h : FailsafeLaw m lines entries slots store) {e : Entry}
    (he : e ∈ entries) : m.state ≠ .failsafe := fun hf => by
  rw [(h.1 hf).2.1] at he; cases he

/-- Another store that is in the same way loading and starting. -/
theorem FailsafeLaw.withStore (h : FailsafeLaw m lines entries slots store)
    (hload : store'.operation.isLoading = true → store.operation.isLoading = true)
    (hboot : (store'.bootResult == .inProgress) = true → (store.bootResult == .inProgress) = true) :
    FailsafeLaw m lines entries slots store' := by
  refine ⟨fun hf => ?_, h.2.1, fun hb => h.2.2 (hboot hb)⟩
  obtain ⟨h1, h2, h3, h4, h5⟩ := h.1 hf
  refine ⟨h1, h2, h3, ?_, h5⟩
  cases hl : store'.operation.isLoading with
  | false => rfl
  | true => rw [hload hl] at h4; cases h4

end

/-! #### One line -/

theorem Line.swept_drop {l : Line} (h : l.swept) (cls : ClaimClass) : (l.drop cls).swept := by
  obtain ⟨h1, h2, h3⟩ := h
  cases cls <;> simp [Line.swept, ClaimSet.set, h1, h2, h3]

theorem Line.failsafe_drop {l : Line} (h : l.claims.failsafe = none) (cls : ClaimClass) :
    (l.drop cls).claims.failsafe = none := by
  cases cls <;> simp [ClaimSet.set, h]

theorem Line.failsafe_place {l : Line} (h : l.claims.failsafe = none) {cls : ClaimClass} (hc : cls ≠ .failsafe)
    (c : Claim) : (l.place cls c).claims.failsafe = none := by
  unfold Line.place
  split
  · cases cls <;> first | exact absurd rfl hc | exact h
  · exact h

theorem Line.failsafe_applyTarget {l : Line} (h : l.claims.failsafe = none) {cls : ClaimClass}
    (hc : cls ≠ .failsafe) (o : Origin) (e : Option Nat) (v : TargetValue) :
    (l.applyTarget cls o e v).claims.failsafe = none := by
  cases v with
  | release => exact Line.failsafe_drop h cls
  | _ => exact Line.failsafe_place h hc _

theorem Line.failsafe_configure {l : Line} (h : l.claims.failsafe = none) (c : LineConfig) :
    (l.configure c).claims.failsafe = none := by
  rw [Line.configure_eq]
  unfold Line.configured
  dsimp only
  repeat' split
  all_goals first | exact h | rfl

theorem Line.swept_setBase {l : Line} (h : l.swept) (level : Level) : (l.setBase level).swept := by
  unfold Line.setBase Line.swept
  dsimp only
  split <;> exact h

theorem Line.failsafe_setBase {l : Line} (h : l.claims.failsafe = none) (level : Level) :
    (l.setBase level).claims.failsafe = none := by
  unfold Line.setBase
  dsimp only
  split <;> exact h

theorem Line.latch_claims (l : Line) : l.latch.claims = l.claims := by
  unfold Line.latch
  split <;> rfl

theorem Line.swept_of_claims {l l' : Line} (h : l.swept) (hc : l'.claims = l.claims) : l'.swept := by
  unfold Line.swept at *; rwa [hc]

/-! #### The part -/

/-- Another session in the same state, with the same record and deadline. -/
theorem FailsafeLaw.withSession {m m' : Session} {lines : Vector Line 40} {entries : List Entry}
    {slots : Vector Slot 16} {store : Store} (h : FailsafeLaw m lines entries slots store)
    (hs : m'.state = m.state) (hr : m'.record.isSome = m.record.isSome)
    (hd : m.state = .failsafe → m'.deadline = m.deadline) : FailsafeLaw m' lines entries slots store := by
  refine ⟨fun hf => ?_, fun hf => h.2.1 (hs ▸ hf), fun hb => hs ▸ h.2.2 hb⟩
  obtain ⟨h1, h2, h3, h4, h5, h6⟩ := h.1 (hs ▸ hf)
  exact ⟨h1, h2, h3, h4, hr ▸ h5, (hd (hs ▸ hf)).trans h6⟩

/-- A change of every line that gives none a claim but BASE keeps the law. -/
theorem State.failsafeLaw_mapLines {s : State} (h : s.FailsafeLaw) {f : LineNo → Line → Line}
    (hf : ∀ i l, (l.swept → (f i l).swept) ∧ (l.claims.failsafe = none → (f i l).claims.failsafe = none)) :
    (s.mapLines f).FailsafeLaw := by
  unfold State.FailsafeLaw
  rw [State.mapLines_session, State.mapLines_schedule, State.mapLines_slots, State.mapLines_store]
  refine FailsafeLaw.withLines h (fun i hi => ?_) fun i hi => ?_
  · rw [State.mapLines_line]; exact (hf i _).1 hi
  · rw [State.mapLines_line]; exact (hf i _).2 hi

/-- The same for one line. -/
theorem State.failsafeLaw_updateLine {s : State} (h : s.FailsafeLaw) (i : LineNo) {f : Line → Line}
    (hf : ∀ l, (l.swept → (f l).swept) ∧ (l.claims.failsafe = none → (f l).claims.failsafe = none)) :
    (s.updateLine i f).FailsafeLaw := by
  unfold State.FailsafeLaw
  rw [State.updateLine_session, State.updateLine_schedule, State.updateLine_slots, State.updateLine_store]
  refine FailsafeLaw.withLines h (fun j hj => ?_) fun j hj => ?_
  · rw [State.updateLine_line]; split
    · exact (hf _).1 hj
    · exact hj
  · rw [State.updateLine_line]; split
    · exact (hf _).2 hj
    · exact hj

/-- A slot that does not run in FAILSAFE keeps the law. -/
theorem State.failsafeLaw_setSlot {s : State} (h : s.FailsafeLaw) (k : SlotNo) {slot : Slot}
    (hr : s.session.state = .failsafe → slot.running = false) : (s.setSlot k slot).FailsafeLaw := by
  refine ⟨fun hf => ?_, h.2.1, h.2.2⟩
  obtain ⟨h1, h2, h3, h4⟩ := h.1 hf
  refine ⟨h1, h2, fun j => ?_, h4⟩
  rw [State.setSlot_slot]
  split
  · exact hr hf
  · exact h3 j

/-- What a leaving with its dependents does not change. -/
theorem State.leave_session (s : State) (e : Entry) (o : EntryOutcome) : (s.leave e o).session = s.session :=
  (congrArg State.session (State.leave_frame s e o) :)

theorem State.leave_store (s : State) (e : Entry) (o : EntryOutcome) : (s.leave e o).store = s.store :=
  (congrArg State.store (State.leave_frame s e o) :)

theorem State.leave_slots (s : State) (e : Entry) (o : EntryOutcome) : (s.leave e o).slots = s.slots :=
  (congrArg State.slots (State.leave_frame s e o) :)

/-- A failsafe entry establishes the law (R23, R85, R127, R144, R165). -/
theorem State.failsafeLaw_enterFailsafe {s : State} (h : s.FailsafeLaw) (c : FailsafeCause)
    (hs : s.starting = false ∨ s.session.state = .active) : (s.enterFailsafe c).FailsafeLaw := by
  obtain ⟨link, -, he⟩ := State.enterFailsafe_eq s c
  have hstart : s.starting = false := by
    rcases hs with hs | hs
    · exact hs
    · refine Bool.eq_false_iff.mpr fun hst => ?_
      have := h.2.2 hst
      rw [hs] at this; cases this
  rw [he]
  refine ⟨fun _ => ⟨fun i => ?_, rfl, fun k => ?_, ?_, rfl, rfl⟩, fun hf => absurd rfl hf, fun hb => ?_⟩
  · simp [State.enteredFailsafe, Line.swept]
  · simp only [State.enteredFailsafe, Fin.getElem_fin, Vector.getElem_ofFn, Slot.running]
    split <;> simp_all
  · simp only [State.enteredFailsafe]
    split
    · rfl
    · rename_i hop
      cases hl : s.store.operation with
      | loading p t => exact absurd hl (hop p t)
      | _ => rfl
  · have hb' : s.starting = true := by
      simp only [State.enteredFailsafe] at hb
      split at hb <;> exact hb
    rw [hstart] at hb'; cases hb'

/-- The end of a store operation keeps the law. -/
theorem State.failsafeLaw_finishStore {s : State} (h : s.FailsafeLaw) {store : Store}
    (hb : store.bootResult = s.store.bootResult) (op : StoreOp) (slot : Option ProfileNo) (r : StoreResult) :
    (State.finishStore { s with store := store } op slot r).FailsafeLaw := by
  unfold State.finishStore
  rw [State.enqueue_eq]
  refine FailsafeLaw.withStore h (store' := { store with
    operation := .none, lastResult := some ⟨op, slot, r, s.now⟩ }) (by nofun) ?_
  rw [← hb]; exact id

/-- Every operation of the part keeps the laws of failsafe. -/
theorem Kept.failsafe : Kept State.FailsafeLaw where
  toLinkKept := .of_insensitive (fun _ _ h => h) fun s h =>
    FailsafeLaw.withSession h (by simp) (by simp) fun hf => by
      rw [Session.renewedAt_inactive _ _ (by rw [hf]; nofun)]
  startUpReset := fun s c _ => FailsafeLaw.outside (by nofun)
    (fun i => by simp [State.startUpReset, Line.afterReset, ClaimSet.empty]) fun _ => rfl
  tick := fun s h hh => by
    rw [State.tick_running hh]
    refine FailsafeLaw.withSession (FailsafeLaw.withStore (FailsafeLaw.withLines h (fun i hi => ?_) fun i hi => ?_)
      id id) rfl rfl fun _ => rfl
    · simp only [Fin.getElem_fin, Vector.getElem_ofFn]
      exact Line.swept_of_claims hi (Line.latch_claims _)
    · simp only [Fin.getElem_fin, Vector.getElem_ofFn, Line.latch_claims]
      exact hi
  beginSession := fun s ms h hs hstart => FailsafeLaw.outside (by nofun)
    (h.2.1 (by rw [hs]; nofun)) fun hb => absurd (hstart.symm.trans hb) (by nofun)
  recover := fun s ms h _ hstart => FailsafeLaw.outside (by nofun)
    (fun i => by
      rw [State.recover, State.beginSession_lines, State.dropFailsafeClaims, State.mapLines_line]
      simp [ClaimSet.set])
    fun hb => absurd (hstart.symm.trans hb) (by nofun)
  renew := fun s lease h hact => FailsafeLaw.outside (by simp [Session.renew, Session.startLease, hact])
    (h.2.1 (by rw [hact]; nofun)) h.2.2
  close := fun s h hact => FailsafeLaw.outside (by simp [State.closeSession])
    (by simpa [State.closeSession] using h.2.1 (by rw [hact]; nofun)) fun _ => rfl
  closeClear := fun s h hact => by
    rw [State.clearAll_eq _ (by simp [State.closeSession])]
    refine FailsafeLaw.outside (by simp [State.dropAllClaims, State.closeSession]) (fun i => ?_) fun _ => ?_
    · have hi := h.2.1 (by rw [hact]; nofun) i
      simp only [State.dropAllClaims, State.mapLines_line]
      refine Line.failsafe_drop (Line.failsafe_drop (Line.failsafe_drop ?_ _) _) _
      simpa [State.closeSession] using hi
    · simp [State.dropAllClaims, State.closeSession]
  enterFailsafe := fun s c h hs => State.failsafeLaw_enterFailsafe h c hs
  addLineCause := fun s h _ => FailsafeLaw.withSession h (by simp) (by simp) fun _ => by simp
  safeN := fun s f h => FailsafeLaw.withSession h rfl rfl fun _ => rfl
  disarmWarning := fun s h => FailsafeLaw.withSession h rfl rfl fun _ => rfl
  circuit := fun s i circuit h => State.failsafeLaw_updateLine h i fun l => ⟨id, id⟩
  filter := fun s i f f' h _ => State.failsafeLaw_updateLine h i fun l => ⟨id, id⟩
  glitch := fun s i f f' h _ => State.failsafeLaw_updateLine h i fun l => ⟨id, id⟩
  expire := fun s i cls h _ => State.failsafeLaw_updateLine h i fun l =>
    ⟨fun hl => Line.swept_drop hl cls, fun hl => Line.failsafe_drop hl cls⟩
  configureLines := fun s xs h hact _ _ => by
    refine FailsafeLaw.outside (by simp [hact]) (fun i => ?_) (by simpa using h.2.2)
    have hi := h.2.1 (by rw [hact]; nofun) i
    unfold State.configureLines
    rw [State.mapLines_line]
    split
    · exact Line.failsafe_configure hi _
    · exact hi
  setBases := fun s xs h => State.failsafeLaw_mapLines h fun i l => by
    split
    · exact ⟨fun hl => Line.swept_setBase hl _, fun hl => Line.failsafe_setBase hl _⟩
    · exact ⟨id, id⟩
  setSpecs := fun s xs h => State.failsafeLaw_mapLines h fun i l => by split <;> exact ⟨id, id⟩
  pinLines := fun s xs h hact => by
    refine FailsafeLaw.outside (by simp [hact]) (fun i => ?_) (by simpa using h.2.2)
    have hi := h.2.1 (by rw [hact]; nofun) i
    unfold State.pinLines
    rw [State.mapLines_line]
    split
    · exact Line.failsafe_place hi (by nofun) _
    · exact hi
  unpin := fun s picked h => State.failsafeLaw_mapLines h fun i l => by
    split
    · exact ⟨fun hl => Line.swept_drop hl _, fun hl => Line.failsafe_drop hl _⟩
    · exact ⟨id, id⟩
  clearGlitches := fun s i h => State.failsafeLaw_updateLine h i fun l => ⟨id, id⟩
  apply := fun s e h he => by
    have hne := h.not_failsafe_of_mem he
    unfold State.applyAction
    refine FailsafeLaw.outside (by simpa using hne) (fun i => ?_) (by simpa using h.2.2)
    unfold State.applyTargets
    rw [State.mapLines_line]
    split
    · exact Line.failsafe_applyTarget (h.2.1 hne i) (by nofun) _ _ _
    · exact h.2.1 hne i
  leave := fun s q e o h hq _ => by
    have hne := h.not_failsafe_of_mem hq
    refine FailsafeLaw.outside (by rwa [State.leave_session]) (fun i => ?_)
      (by rw [State.leave_session, State.leave_store]; exact h.2.2)
    rw [State.leave_line s e o i]
    exact h.2.1 hne i
  put := fun s q e h hq _ _ => by
    have hne := h.not_failsafe_of_mem hq
    exact FailsafeLaw.outside hne (h.2.1 hne) h.2.2
  admitted := fun s body x h hact _ _ _ _ => by
    unfold State.admitted
    refine FailsafeLaw.outside (by simp [hact]) (fun i => ?_) (by simpa using h.2.2)
    have hi := h.2.1 (by rw [hact]; nofun) i
    unfold State.addRefs
    rw [State.mapLines_line]
    split <;> exact hi
  dropClaims := fun s cls test h _ => State.failsafeLaw_mapLines h fun i l => by
    split
    · exact ⟨fun hl => Line.swept_drop hl _, fun hl => Line.failsafe_drop hl _⟩
    · exact ⟨id, id⟩
  applyTrigger := fun s k d expiry h _ hr => by
    have hne : s.session.state ≠ .failsafe := fun hf => by
      rw [(h.1 hf).2.2.1 k] at hr; cases hr
    refine FailsafeLaw.outside (by simpa using hne) (fun i => ?_) (by simpa using h.2.2)
    unfold State.applyTargets
    rw [State.mapLines_line]
    split
    · exact Line.failsafe_applyTarget (h.2.1 hne i) (by nofun) _ _ _
    · exact h.2.1 hne i
  slot := fun s k slot h _ hr => State.failsafeLaw_setSlot h k fun hf => Bool.eq_false_iff.mpr fun hrun => by
    rcases hr hrun with hk | hk
    · rw [(h.1 hf).2.2.1 k] at hk; cases hk
    · exact hk hf
  define := fun s k d h hact _ => by
    unfold State.define
    refine FailsafeLaw.outside (by simp [hact]) (fun i => ?_) (by simpa using h.2.2)
    have hi := h.2.1 (by rw [hact]; nofun) i
    unfold State.addRefs State.dropRefs
    rw [State.setSlot_lines, State.mapLines_line, State.mapLines_line]
    repeat' split
    all_goals exact hi
  deleteSlot := fun s k h => State.failsafeLaw_setSlot
    (State.failsafeLaw_mapLines h fun i l => by split <;> exact ⟨id, id⟩) k fun _ => rfl
  staging := fun s st h _ _ => FailsafeLaw.withStore h id id
  startCommit := fun s p rs h _ _ => FailsafeLaw.withStore h (by nofun) id
  startLoad := fun s p t h hact _ _ => FailsafeLaw.outside (by simp [hact])
    (h.2.1 (by rw [hact]; nofun)) h.2.2
  startErase := fun s p h _ => FailsafeLaw.withStore h (by nofun) id
  startBootWrite := fun s v h _ => FailsafeLaw.withStore h (by nofun) id
  endCommit := fun s p copy g a b c r h _ _ => by
    unfold State.endCommit
    refine State.failsafeLaw_finishStore h ?_ _ _ _
    rfl
  endEraseStep := fun s p first a h _ => FailsafeLaw.withStore h (by nofun) id
  endErase := fun s p first a h _ => by
    unfold State.endErase
    refine State.failsafeLaw_finishStore h ?_ _ _ _
    rfl
  endBootWrite := fun s v copy g a b c r h _ => by
    unfold State.endBootWrite
    refine State.failsafeLaw_finishStore h ?_ _ _ _
    rfl
  endLoad := fun s p a r h _ => State.failsafeLaw_finishStore h rfl _ _ _
  applyProfile := fun s p n g rs h hwhen _ => by
    have hne : s.session.state ≠ .failsafe := fun hf => by
      rcases hwhen with hl | hst
      · rw [(h.1 hf).2.2.2.1] at hl; cases hl
      · have := h.2.2 hst
        rw [hf] at this; cases this
    refine FailsafeLaw.outside hne (fun i => ?_) h.2.2
    simp only [State.applyProfile, Fin.getElem_fin, Vector.getElem_ofFn]
    exact Line.failsafe_drop (Line.failsafe_configure (h.2.1 hne i) _) .trigger
  boot := fun s r h hr => FailsafeLaw.withStore h id fun hb => absurd (beq_iff_eq.mp hb) hr

/-- Settles O59: each operation of the part keeps the laws of failsafe, and a step is made of operations. -/
theorem failsafeLawsKept : Obligations.FailsafeLawsKept := fun _ _ h _ hs =>
  Kept.failsafe.step (fun _ _ h => h) (fun _ _ h => h) h hs

end Sys2Proof.Machine
end

/-! ### Counting references: entries that leave, slots that change (R10) -/

section
set_option Elab.async false
namespace Sys2Proof.Machine

/-! #### The schedule -/

section
variable {entries : List Entry} {rank : Entry → Nat}

/-- No entry leaves ORPHANED twice. -/
theorem orphansOf_nodup (hc : Chained entries rank) (depth id : Nat) :
    ((orphansOf depth entries id).map (·.1)).Nodup := by
  induction depth generalizing id with
  | zero => simp [orphansOf]
  | succ depth ih =>
    have hmem : ∀ (d x : Entry), x ∈ (orphansOf depth entries d.action.id).map (·.1) →
        Below entries d.action.id x := by
      intro d x hx
      obtain ⟨l, hl, rfl⟩ := List.mem_map.mp hx
      exact below_of_mem_orphansOf hl
    rw [orphansOf, List.map_flatMap, List.nodup_flatMap]
    refine ⟨fun d hd => ?_, ?_⟩
    · rw [List.mem_filter] at hd
      rw [List.map_cons, List.nodup_cons]
      exact ⟨fun hdd => lt_irrefl _ ((hmem d d hdd).rank_lt hc hd.1), ih _⟩
    · refine (hc.nodup.filter _).pairwise_of_forall_ne fun a ha b hb hab => ?_
      rw [List.mem_filter] at ha hb
      refine List.disjoint_left.mpr fun x hxa hxb => ?_
      simp only [List.map_cons] at hxa hxb
      exact Below.disjoint hc ha.1 hb.1 ha.2 hb.2 hab ((List.mem_cons.mp hxa).imp (fun h => h) (hmem a x))
        ((List.mem_cons.mp hxb).imp (fun h => h) (hmem b x)) rfl

/-- Entries that leave, each once, are those that a filter by their ids takes out. -/
theorem countP_filter_leaving {gone : List Entry} (hc : Chained entries rank) (hnd : gone.Nodup)
    (hsub : ∀ x ∈ gone, x ∈ entries) (p : Entry → Bool) :
    entries.countP p =
      (entries.filter fun x => gone.all fun g => decide (g.action.id ≠ x.action.id)).countP p + gone.countP p := by
  rw [List.countP_eq_countP_filter_add entries p
    (fun x => gone.all fun g => decide (g.action.id ≠ x.action.id))]
  congr 1
  refine List.Perm.countP_eq p ((List.perm_ext_iff_of_nodup (hc.nodup.filter _) hnd).mpr fun x => ?_)
  simp only [List.mem_filter, Bool.not_eq_true', List.all_eq_false, decide_eq_true_eq, not_not]
  constructor
  · rintro ⟨hx, g, hg, hid⟩
    rwa [← hc.distinct g (hsub g hg) x hx hid]
  · exact fun hx => ⟨hsub x hx, x, hx, rfl⟩

end

/-- What a queued entry's action is, for an entry that has its action. -/
theorem Schedule.lawful_map {c d : Schedule} (h : c.lawful) {f : Entry → Entry} (hd : d.entries = c.entries.map f)
    (hact : ∀ x ∈ c.entries, (f x).action = x.action)
    (hwait : ∀ x ∈ c.entries, (f x).state = .waitingPred → x.state = .waitingPred) : d.lawful := by
  obtain ⟨hlen, hnodup, hpred⟩ := h
  have hids : (c.entries.map f).map (·.action.id) = c.entries.map (·.action.id) := by
    rw [List.map_map]
    exact List.map_congr_left fun x hx => by simp only [Function.comp, hact x hx]
  refine ⟨by rwa [hd, List.length_map], by rwa [hd, hids], fun earlier later x hsplit hx => ?_⟩
  rw [hd] at hsplit
  obtain ⟨before, rest, hbefore, rfl, hrest⟩ := List.map_eq_append_iff.mp hsplit
  obtain ⟨y, after, rfl, rfl, rfl⟩ := List.map_eq_cons_iff.mp hrest
  have hy : y ∈ c.entries := by rw [hbefore]; simp
  obtain ⟨ch, p, hch, hp, hid, hrep⟩ := hpred before after y hbefore (hwait y hy hx)
  have hp' : p ∈ c.entries := by rw [hbefore]; exact List.mem_append_left _ hp
  exact ⟨ch, f p, by rw [hact y hy]; exact hch, List.mem_map_of_mem hp, by rw [hact p hp', hid],
    by rw [hact p hp', hrep]⟩

/-- The laws of the schedule after an entry that has been applied has left: none waits for it any more. -/
theorem State.leave_applied_lawful {s : State} (h : s.schedule.lawful) {q e : Entry} (hq : q ∈ s.schedule.entries) :
    (s.leave e .applied).schedule.lawful := by
  rw [State.leave_applied hq]
  let f : Entry → Entry := fun d => if d.waitsFor e.action.id then d.release s.now else d
  have hact : ∀ x : Entry, (f x).action = x.action := by
    intro x
    simp only [f, Entry.release]
    repeat' split
    all_goals rfl
  have hmap : ({ s.schedule with entries := s.schedule.entries.map f } : Schedule).lawful := by
    refine Schedule.lawful_map h rfl (fun x _ => hact x) fun x _ hx => ?_
    simp only [f, Entry.release] at hx
    repeat' split at hx
    · simp at hx
    · exact hx
    · exact hx
  have hwaits : ∀ x : Entry, (f x).waitsFor e.action.id = false := by
    intro x
    cases hw : x.waitsFor e.action.id with
    | false => simp only [f, hw, Bool.false_eq_true, if_false]
    | true =>
      obtain ⟨-, ch, hch, -⟩ := (x.waitsFor_iff _).mp hw
      rw [show f x = x.release s.now from if_pos hw, Entry.release, Option.mem_def.mp hch]
      rfl
  refine Schedule.lawful_filter hmap
    (p := fun x => [(e, EntryOutcome.applied)].all fun l => decide (l.1.action.id ≠ x.action.id)) ?_ ?_
  · simp only [Schedule.releaseDependents, State.left_entries, List.filter_map]
    congr 1
    refine List.filter_congr fun x _ => ?_
    simp only [Function.comp, hact]
  · intro p hp x hx hw _
    obtain ⟨y, -, rfl⟩ := List.mem_map.mp hx
    simp only [List.all_cons, List.all_nil, Bool.and_true, ne_eq, decide_not, Bool.not_eq_true',
      decide_eq_false_iff_not]
    intro hid
    rw [← hid, hwaits y] at hw
    cases hw

/-- Of every line a leaving drops the references of the entries that it takes out, and the schedule after it is
lawful and has no action that it had not before (R10, R76, R104). -/
theorem State.leave_references {s : State} (h : s.schedule.lawful) {q e : Entry} (hq : q ∈ s.schedule.entries)
    (he : e.action = q.action) (o : EntryOutcome) :
    (s.leave e o).schedule.lawful ∧
      (∀ x ∈ (s.leave e o).schedule.entries, ∃ y ∈ s.schedule.entries, x.action = y.action) ∧
      ∀ i : LineNo, ∃ n, s.schedule.entries.countP (·.action.names i) =
          (s.leave e o).schedule.entries.countP (·.action.names i) + n ∧
        (s.leave e o).lines[i].refs = s.lines[i].refs - n := by
  have hc := Schedule.lawful_chained h
  by_cases ho : o = .applied
  · subst ho
    refine ⟨State.leave_applied_lawful h hq, ?_, fun i => ⟨if e.action.names i then 1 else 0, ?_, ?_⟩⟩
    · rw [State.leave_applied hq]
      simp only [Schedule.releaseDependents, State.left_entries]
      intro x hx
      obtain ⟨y, hy, rfl⟩ := List.mem_map.mp hx
      refine ⟨y, (List.mem_filter.mp hy).1, ?_⟩
      unfold Entry.release
      repeat' split
      all_goals rfl
    · rw [State.leave_applied hq]
      have hcount := countP_filter_leaving hc (gone := [q]) (by simp) (by simpa using hq) (·.action.names i)
      simp only [List.all_cons, List.all_nil, Bool.and_true, List.countP_cons, List.countP_nil,
        Nat.zero_add] at hcount
      simp only [Schedule.releaseDependents, State.left_entries, List.countP_map, List.all_cons, List.all_nil,
        Bool.and_true, he]
      rw [hcount]
      congr 1
      refine List.countP_congr fun x _ => ?_
      simp only [Function.comp, Entry.release]
      repeat' split
      all_goals rfl
    · rw [State.leave_applied hq]
      simp [State.left, List.countP_cons]
  · have hbelow : ∀ x ∈ (orphansOf s.schedule.entries.length s.schedule.entries q.action.id).map (·.1),
        Below s.schedule.entries q.action.id x := by
      intro x hx
      obtain ⟨l, hl, rfl⟩ := List.mem_map.mp hx
      exact below_of_mem_orphansOf hl
    have hlaw := State.left_lawful h e o
    rw [State.leave_eq_left h hq ho]
    refine ⟨hlaw, fun x hx => ⟨x, ?_, rfl⟩, fun i => ⟨((e, o) :: orphansOf s.schedule.entries.length
      s.schedule.entries e.action.id).countP (·.1.action.names i), ?_, ?_⟩⟩
    · rw [State.left_entries] at hx
      exact (List.mem_filter.mp hx).1
    · have hcount := countP_filter_leaving hc (gone := q ::
          (orphansOf s.schedule.entries.length s.schedule.entries q.action.id).map (·.1))
        (List.nodup_cons.mpr ⟨fun hqq => lt_irrefl _ ((hbelow q hqq).rank_lt hc hq), orphansOf_nodup hc _ _⟩)
        (fun x hx => (List.mem_cons.mp hx).elim (fun h => h ▸ hq) fun h => (hbelow x h).mem)
        (·.action.names i)
      simp only [List.all_cons, List.all_map, List.countP_cons, List.countP_map] at hcount
      simp only [State.left_entries, List.all_cons, List.countP_cons, he]
      exact hcount
    · simp [State.left]

/-! #### The slots -/

/-- A count over numbers of which one has changed. -/
theorem countP_finRange_changed {n : Nat} {p q : Fin n → Bool} (k : Fin n) (h : ∀ j, j ≠ k → q j = p j) :
    (List.finRange n).countP q + (if p k then 1 else 0) = (List.finRange n).countP p + (if q k then 1 else 0) := by
  obtain ⟨before, after, hsplit⟩ := List.append_of_mem (List.mem_finRange k)
  have hnd := List.nodup_finRange n
  rw [hsplit, List.nodup_append, List.nodup_cons] at hnd
  have hb : before.countP q = before.countP p :=
    List.countP_congr fun j hj => by rw [h j fun hjk => hnd.2.2 j hj k (by simp) hjk]
  have ha : after.countP q = after.countP p :=
    List.countP_congr fun j hj => by rw [h j fun hjk => hnd.2.1.1 (hjk ▸ hj)]
  rw [hsplit, List.countP_append, List.countP_append, List.countP_cons, List.countP_cons, hb, ha]
  omega

/-- The references of the slots when one slot has changed. -/
theorem refsFrom_setSlot (s : State) (k : SlotNo) (slot : Slot) (i : LineNo) :
    refsFrom (s.setSlot k slot).slots i + (if s.slots[k].names i then 1 else 0) =
      refsFrom s.slots i + (if slot.names i then 1 else 0) := by
  have h := countP_finRange_changed (p := fun j : SlotNo => s.slots[j].names i)
    (q := fun j : SlotNo => (s.setSlot k slot).slots[j].names i) k
    fun j hj => by rw [State.setSlot_slot, if_neg (Ne.symm hj)]
  rw [State.setSlot_slot, if_pos rfl] at h
  exact h

/-- The references of the slots depend on the lines that their definitions name alone. -/
theorem refsFrom_congr {slots slots' : Vector Slot 16} {i : LineNo}
    (h : ∀ k : SlotNo, slots'[k].definition = slots[k].definition) : refsFrom slots' i = refsFrom slots i := by
  unfold refsFrom
  refine List.countP_congr fun k _ => ?_
  unfold Slot.names
  rw [h k]

/-- A line that a slot names is referenced by it. -/
theorem refsFrom_pos {slots : Vector Slot 16} {k : SlotNo} {i : LineNo} (h : slots[k].names i = true) :
    0 < refsFrom slots i :=
  List.countP_pos_iff.mpr ⟨k, List.mem_finRange k, h⟩

end Sys2Proof.Machine
end

/-! ### The reference counts, the modes of the lines named, and the laws of the store (R10, R111, R150, R160) -/

section
set_option Elab.async false
namespace Sys2Proof.Machine

/-! #### Fitting modes -/

/-- Whether targets fit depends on the modes of their lines alone. -/
theorem targets_all_congr {ts : List Target} {m m' : LineNo → Mode} (h : ∀ t ∈ ts, m' t.line = m t.line) :
    ts.all (fun t => (m' t.line).isOutput) = ts.all (fun t => (m t.line).isOutput) := by
  rw [Bool.eq_iff_iff, List.all_eq_true, List.all_eq_true]
  exact forall₂_congr fun t ht => by rw [h t ht]

/-- Whether an action fits depends on the modes of the lines that it names alone. -/
theorem Action.fits_congr {a : Action} {m m' : LineNo → Mode} (h : ∀ i, a.names i = true → m' i = m i) :
    a.fits m' = a.fits m := by
  have htargets : ∀ t ∈ a.targets, m' t.line = m t.line := fun t ht => h t.line (by
    simp only [Action.names, Bool.or_eq_true, List.any_eq_true, decide_eq_true_eq]
    exact .inl ⟨t, ht, rfl⟩)
  unfold Action.fits
  rw [targets_all_congr htargets]
  cases hg : a.guard with
  | none => rfl
  | some g => dsimp only; rw [h g.line (by simp [Action.names, hg])]

/-- The same for a trigger definition. -/
theorem TriggerDef.fits_congr {d : TriggerDef} {m m' : LineNo → Mode} (h : ∀ i, d.names i = true → m' i = m i) :
    d.fits m' = d.fits m := by
  have htargets : ∀ t ∈ d.targets, m' t.line = m t.line := fun t ht => h t.line (by
    simp only [TriggerDef.names, Bool.or_eq_true, List.any_eq_true, decide_eq_true_eq]
    exact .inl (.inr ⟨t, ht, rfl⟩))
  unfold TriggerDef.fits
  rw [targets_all_congr htargets, h d.watched (by simp [TriggerDef.names])]
  cases hq : d.qualifier with
  | none => rfl
  | some q => dsimp only; rw [h q.line (by simp [TriggerDef.names, hq])]

/-! #### The media -/

/-- A copy set to a profile without a bad record, or to none, keeps the media lawful. -/
theorem Media.lawful_setCopy {m : Media} (h : m.lawful) (p : ProfileNo) (n : CopyNo) {c : Copy (List ProfileRecord)}
    (hc : ∀ g rs, c = .valid g rs → invalidAt rs = none) : (m.setCopy p n c).lawful := by
  intro p' n' g rs hget
  have hslot : (m.setCopy p n c).slots[p'] = if p = p' then m.slots[p].set n c else m.slots[p'] := by
    by_cases hp : p = p'
    · subst hp; simp [Media.setCopy]
    · have hv : p.val ≠ p'.val := fun hh => hp (Fin.ext hh)
      simp [Media.setCopy, hp, hv]
  rw [hslot] at hget
  split at hget
  · rename_i hp; subst hp
    rw [CopyPair.get_set] at hget
    split at hget
    · exact hc g rs hget
    · exact h p n' g rs hget
  · exact h p' n' g rs hget

/-- The loadable profile of a slot is that of one of its VALID copies (R151). -/
theorem CopyPair.loadable_get {α : Type} {pair : CopyPair α} {n : CopyNo} {g : Serial} {a : α}
    (h : pair.loadable = some (n, g, a)) : pair.get n = .valid g a := by
  unfold CopyPair.loadable at h
  repeat' split at h
  all_goals first
    | (simp only [Option.some.injEq, Prod.mk.injEq] at h
       obtain ⟨rfl, rfl, rfl⟩ := h
       assumption)
    | cases h

/-- A record of a list without a bad record is not bad. -/
theorem lowestBadFrom_none {all earlier rs : List ProfileRecord} {index : Nat}
    (h : lowestBadFrom all index earlier rs = none) :
    ∀ r ∈ rs, ∃ before, r.bad all before = false := by
  induction rs generalizing earlier index with
  | nil => simp
  | cons r rest ih =>
    unfold lowestBadFrom at h
    split at h
    · cases h
    · rename_i hbad
      intro x hx
      rcases List.mem_cons.mp hx with rfl | hx
      · exact ⟨earlier, Bool.eq_false_iff.mpr hbad⟩
      · exact ih h x hx

/-- The definitions of a validated profile fit the modes that it gives the lines (R111, R160). -/
theorem profileSlot_fits {rs : List ProfileRecord} (h : invalidAt rs = none) {k : SlotNo} {d : TriggerDef}
    (hd : (profileSlot rs k).definition = some d) : d.fits (profileMode rs) = true := by
  have hbad : ∀ r ∈ rs, ∃ before, r.bad rs before = false := by
    cases rs with
    | nil => cases h
    | cons r rest => exact lowestBadFrom_none h
  unfold profileSlot at hd
  cases ht : profileTrigger rs k with
  | none => rw [ht] at hd; cases hd
  | some x =>
    obtain ⟨d', arm⟩ := x
    rw [ht] at hd
    obtain rfl : d' = d := Option.some.inj hd
    obtain ⟨r, hr, hf⟩ := List.exists_of_findSome?_eq_some ht
    obtain ⟨before, hb⟩ := hbad r hr
    cases r with
    | trigger j d'' arm'' =>
      dsimp only at hf
      split at hf
      · obtain ⟨rfl, -⟩ := Prod.mk.inj (Option.some.inj hf)
        simp only [ProfileRecord.bad, Bool.or_eq_false_iff, Bool.not_eq_false'] at hb
        exact hb.2
      · cases hf
    | _ => cases hf

/-! #### The law -/

/-- `State.referencesLawful`, as a law of the blocks that it speaks of. -/
structure ReferenceLaw (c : Schedule) (lines : Vector Line 40) (slots : Vector Slot 16) (store : Store) :
    Prop where
  schedule : c.lawful
  refs : ∀ i : LineNo, lines[i].refs = c.entries.countP (·.action.names i) + refsFrom slots i
  actions : ∀ e ∈ c.entries, e.action.fits (fun i => lines[i].config.mode) = true
  definitions : ∀ k : SlotNo, ∀ d, slots[k].definition = some d → d.fits (fun i => lines[i].config.mode) = true
  loading : store.operation.isLoading = true ∨ (store.bootResult == .inProgress) = true → c.entries = []
  store : store.lawful

/-- The law of a part, in the terms of `ReferenceLaw`. -/
abbrev State.ReferenceLaw (s : State) : Prop := Machine.ReferenceLaw s.schedule s.lines s.slots s.store

theorem State.referencesLawful_iff (s : State) : s.referencesLawful ↔ s.ReferenceLaw :=
  ⟨fun ⟨h1, h2, h3, h4, h5, h6⟩ => ⟨h1, h2, h3, h4, h5, h6⟩,
    fun ⟨h1, h2, h3, h4, h5, h6⟩ => ⟨h1, h2, h3, h4, h5, h6⟩⟩

section
variable {c c' : Schedule} {lines lines' : Vector Line 40} {slots slots' : Vector Slot 16} {store store' : Store}

/-- Lines that keep their references, and their modes where they are referenced, keep the law. -/
theorem ReferenceLaw.withLines (h : ReferenceLaw c lines slots store)
    (hl : ∀ i : LineNo, lines'[i].refs = lines[i].refs ∧
      (lines[i].refs ≠ 0 → lines'[i].config.mode = lines[i].config.mode)) :
    ReferenceLaw c lines' slots store where
  schedule := h.schedule
  refs := fun i => (hl i).1.trans (h.refs i)
  actions := fun e he => by
    rw [Action.fits_congr (m := fun i => lines[i].config.mode) fun i hi => (hl i).2 ?_]
    · exact h.actions e he
    · have := List.countP_pos_iff (p := fun x : Entry => x.action.names i).mpr ⟨e, he, hi⟩
      rw [h.refs i]; omega
  definitions := fun k d hd => by
    rw [TriggerDef.fits_congr (m := fun i => lines[i].config.mode) fun i hi => (hl i).2 ?_]
    · exact h.definitions k d hd
    · have := refsFrom_pos (slots := slots) (k := k) (i := i) (by rw [Slot.names, hd]; exact hi)
      rw [h.refs i]; omega
  loading := h.loading
  store := h.store

/-- Slots that keep their definitions keep the law. -/
theorem ReferenceLaw.withSlots (h : ReferenceLaw c lines slots store)
    (hs : ∀ k : SlotNo, slots'[k].definition = slots[k].definition) : ReferenceLaw c lines slots' store where
  schedule := h.schedule
  refs := fun i => by rw [refsFrom_congr hs]; exact h.refs i
  actions := h.actions
  definitions := fun k d hd => h.definitions k d (by rw [← hs k]; exact hd)
  loading := h.loading
  store := h.store

/-- A lawful store that is in the same way loading and starting keeps the law. -/
theorem ReferenceLaw.withStore (h : ReferenceLaw c lines slots store) (hs : store'.lawful)
    (hl : store'.operation.isLoading = true ∨ (store'.bootResult == .inProgress) = true →
      store.operation.isLoading = true ∨ (store.bootResult == .inProgress) = true) :
    ReferenceLaw c lines slots store' where
  schedule := h.schedule
  refs := h.refs
  actions := h.actions
  definitions := h.definitions
  loading := fun hb => h.loading (hl hb)
  store := hs

/-- A schedule with the actions of the old one in their order keeps the law. -/
theorem ReferenceLaw.withSchedule (h : ReferenceLaw c lines slots store) (hc : c'.lawful)
    (ha : c'.entries.map (·.action) = c.entries.map (·.action)) : ReferenceLaw c' lines slots store where
  schedule := hc
  refs := fun i => by
    have hcount : ∀ es : List Entry, es.countP (·.action.names i) = (es.map (·.action)).countP (·.names i) :=
      fun es => by rw [List.countP_map]; rfl
    rw [h.refs i, hcount, hcount, ha]
  actions := fun e he => by
    obtain ⟨x, hx, hxe⟩ := List.mem_map.mp (ha ▸ List.mem_map_of_mem he)
    rw [← hxe]; exact h.actions x hx
  definitions := h.definitions
  loading := fun hb => by simpa [h.loading hb] using ha
  store := h.store

end

/-- Another operation keeps a lawful store with the same media, when it is no commit. -/
theorem Store.lawful_of_media {store : Store} (hm : store.media.lawful)
    (hop : ∀ p n g t d, store.operation = .committing p n g t d →
      ∃ rs, store.staging = .committing p rs ∧ invalidAt rs = none) : store.lawful := by
  refine ⟨hm, ?_⟩
  cases h : store.operation with
  | committing p n g t d => exact hop p n g t d h
  | _ => trivial

/-- What a lawful store says of a commit. -/
theorem Store.lawful_committing {store : Store} (h : store.lawful) {p : ProfileNo} {n : CopyNo} {g : Serial}
    {t d : Nat} (hop : store.operation = .committing p n g t d) :
    ∃ rs, store.staging = .committing p rs ∧ invalidAt rs = none := by
  have := h.2
  rw [hop] at this
  exact this

/-- A change of every line that keeps references and modes keeps the law. -/
theorem State.referenceLaw_mapLines {s : State} (h : s.ReferenceLaw) {f : LineNo → Line → Line}
    (hf : ∀ i, (f i s.lines[i]).refs = s.lines[i].refs ∧
      (s.lines[i].refs ≠ 0 → (f i s.lines[i]).config.mode = s.lines[i].config.mode)) :
    (s.mapLines f).ReferenceLaw := by
  unfold State.ReferenceLaw
  rw [State.mapLines_schedule, State.mapLines_slots, State.mapLines_store]
  exact ReferenceLaw.withLines h fun i => by rw [State.mapLines_line]; exact hf i

/-- The same for one line. -/
theorem State.referenceLaw_updateLine {s : State} (h : s.ReferenceLaw) (i : LineNo) {f : Line → Line}
    (hf : ∀ l, (f l).refs = l.refs ∧ (f l).config.mode = l.config.mode) : (s.updateLine i f).ReferenceLaw := by
  unfold State.ReferenceLaw
  rw [State.updateLine_schedule, State.updateLine_slots, State.updateLine_store]
  refine ReferenceLaw.withLines h fun j => ?_
  rw [State.updateLine_line]
  split
  · exact ⟨(hf _).1, fun _ => (hf _).2⟩
  · exact ⟨rfl, fun _ => rfl⟩

theorem Line.place_refs (l : Line) (cls : ClaimClass) (c : Claim) : (l.place cls c).refs = l.refs := by
  unfold Line.place; split <;> rfl

theorem Line.place_config (l : Line) (cls : ClaimClass) (c : Claim) : (l.place cls c).config = l.config := by
  unfold Line.place; split <;> rfl

theorem Line.configure_refs (l : Line) (c : LineConfig) : (l.configure c).refs = l.refs := by
  rw [Line.configure_eq]; rfl

theorem Line.configure_config (l : Line) (c : LineConfig) : (l.configure c).config = c := by
  rw [Line.configure_eq]; rfl

theorem Line.latch_refs (l : Line) : l.latch.refs = l.refs := by unfold Line.latch; split <;> rfl

theorem Line.latch_config (l : Line) : l.latch.config = l.config := by unfold Line.latch; split <;> rfl

/-- Targets applied keep references and modes. -/
theorem State.referenceLaw_applyTargets {s : State} (h : s.ReferenceLaw) (cls : ClaimClass) (o : Origin)
    (e : Option Nat) (ts : List Target) : (s.applyTargets cls o e ts).ReferenceLaw :=
  State.referenceLaw_mapLines h fun i => by
    split
    · rw [Line.applyTarget_eq, Line.targeted_refs, Line.targeted_config]
      exact ⟨rfl, fun _ => rfl⟩
    · exact ⟨rfl, fun _ => rfl⟩

/-- The end of a store operation keeps the law. -/
theorem State.referenceLaw_finishStore {s : State} (h : s.ReferenceLaw) {store : Store} (hm : store.media.lawful)
    (hb : store.bootResult = s.store.bootResult) (op : StoreOp) (slot : Option ProfileNo) (r : StoreResult) :
    (State.finishStore { s with store := store } op slot r).ReferenceLaw := by
  unfold State.finishStore
  rw [State.enqueue_eq]
  refine ReferenceLaw.withStore h (store' := { store with
    operation := .none, lastResult := some ⟨op, slot, r, s.now⟩ }) ⟨hm, trivial⟩ ?_
  rw [← hb]
  rintro (hl | hl)
  · cases hl
  · exact .inr hl

/-! #### The operations -/

/-- The schedule emptied, with the references of its entries, keeps the law (R10, R84, R85). -/
theorem ReferenceLaw.emptied {c : Schedule} {lines : Vector Line 40} {slots : Vector Slot 16} {store : Store}
    (h : ReferenceLaw c lines slots store) {lines' : Vector Line 40} (outcomes : List OutcomeRecord)
    (hrefs : ∀ i : LineNo, lines'[i].refs = lines[i].refs - c.entries.countP (·.action.names i))
    (hmode : ∀ i : LineNo, lines'[i].config.mode = lines[i].config.mode) :
    ReferenceLaw { c with entries := [], outcomes := outcomes } lines' slots store where
  schedule := ⟨Nat.zero_le _, by simp, fun _ _ _ hsplit => by simp at hsplit⟩
  refs := fun i => by
    rw [hrefs i, h.refs i, List.countP_nil]; omega
  actions := nofun
  definitions := fun k d hd => by simpa only [hmode] using h.definitions k d hd
  loading := fun _ => rfl
  store := h.store

/-- A failsafe entry keeps the law: the schedule is empty, and its references are gone (R10, R85). -/
theorem State.referenceLaw_enterFailsafe {s : State} (h : s.ReferenceLaw) (c : FailsafeCause) :
    (s.enterFailsafe c).ReferenceLaw := by
  obtain ⟨link, -, he⟩ := State.enterFailsafe_eq s c
  rw [he]
  refine ReferenceLaw.withSlots (slots := s.slots) (ReferenceLaw.withStore (store := s.store)
    (ReferenceLaw.emptied h _ (fun i => ?_) fun i => ?_) ?_ fun _ => ?_) fun k => ?_
  · simp only [State.enteredFailsafe, Fin.getElem_fin, Vector.getElem_ofFn, Fin.eta]
  · simp only [State.enteredFailsafe, Fin.getElem_fin, Vector.getElem_ofFn]
  · refine Store.lawful_of_media ?_ fun p n g t dr hop => ?_
    · simp only [State.enteredFailsafe]
      split <;> exact h.store.1
    · simp only [State.enteredFailsafe] at hop ⊢
      split at hop
      · cases hop
      · obtain ⟨rs, hst, hrs⟩ := Store.lawful_committing h.store hop
        exact ⟨rs, by rw [hst]; rfl, hrs⟩
  · rename_i hl
    simp only [State.enteredFailsafe] at hl
    split at hl
    · exact .inr (hl.resolve_left (by nofun))
    · exact hl
  · simp [State.enteredFailsafe]

/-- A CLOSE keeps the law, in either mode. -/
theorem State.referenceLaw_close {s : State} (h : s.ReferenceLaw) : s.closeSession.ReferenceLaw := by
  refine ReferenceLaw.withStore h (Store.lawful_of_media h.store.1 fun p n g t d hop => ?_) (fun hl => hl)
  obtain ⟨rs, hst, hrs⟩ := Store.lawful_committing h.store hop
  exact ⟨rs, (congrArg Staging.discard hst :), hrs⟩

/-- Slots that stand down keep the law. -/
theorem State.referenceLaw_standDownAll {s : State} (h : s.ReferenceLaw) : s.standDownAll.ReferenceLaw := by
  unfold State.ReferenceLaw
  rw [State.standDownAll_schedule, State.standDownAll_lines, State.standDownAll_store]
  exact ReferenceLaw.withSlots h fun k => by rw [State.standDownAll_slot]; rfl

theorem State.referenceLaw_closeClear {s : State} (h : s.ReferenceLaw) : s.closeSession.clearAll.ReferenceLaw := by
  have hempty : (s.closeSession.leaveAll (.cancelled .close)).ReferenceLaw := by
    rw [State.leaveAll_eq (.inr (by simp [State.closeSession]))]
    refine ReferenceLaw.emptied (State.referenceLaw_close h) _ (fun i => ?_) fun i => ?_
    · simp only [Fin.getElem_fin, Vector.getElem_ofFn, Fin.eta]
    · simp only [Fin.getElem_fin, Vector.getElem_ofFn]
  have hdown := State.referenceLaw_standDownAll hempty
  unfold State.clearAll State.dropAllClaims
  exact State.referenceLaw_mapLines hdown fun i => ⟨by simp, fun _ => by simp⟩

/-- Leavings keep the law. -/
theorem State.referenceLaw_leave {s : State} (h : s.ReferenceLaw) {q e : Entry} (hq : q ∈ s.schedule.entries)
    (he : e.action = q.action) (o : EntryOutcome) : (s.leave e o).ReferenceLaw := by
  obtain ⟨hlaw, hsub, hcount⟩ := State.leave_references h.schedule hq he o
  have hmode : (fun i : LineNo => (s.leave e o).lines[i].config.mode) = fun i => s.lines[i].config.mode := by
    funext i; rw [State.leave_line s e o i]
  unfold State.ReferenceLaw
  rw [State.leave_slots, State.leave_store]
  refine ⟨hlaw, fun i => ?_, fun x hx => ?_, fun k d hd => ?_, fun hl => ?_, h.store⟩
  · obtain ⟨n, hn, hr⟩ := hcount i
    rw [hr, h.refs i, hn]; omega
  · obtain ⟨y, hy, hxy⟩ := hsub x hx
    rw [hmode, hxy]; exact h.actions y hy
  · rw [hmode]; exact h.definitions k d hd
  · rw [h.loading hl] at hq; cases hq

/-- An entry of a queued entry's id and action in its place keeps the law, when it is not in WAITING_PRED. -/
theorem State.referenceLaw_put {s : State} (h : s.ReferenceLaw) {q e : Entry} (hq : q ∈ s.schedule.entries)
    (he : e.action = q.action) (hw : e.state ≠ .waitingPred) :
    ({ s with schedule := s.schedule.put e } : State).ReferenceLaw := by
  have hact : ∀ x ∈ s.schedule.entries,
      (if x.action.id = e.action.id then e else x).action = x.action := by
    intro x hx
    split
    · rename_i hid
      rw [he, (Schedule.lawful_chained h.schedule).distinct x hx q hq (hid.trans (congrArg Action.id he))]
    · rfl
  refine ReferenceLaw.withSchedule h (Schedule.lawful_map h.schedule rfl hact fun x _ hx => ?_) ?_
  · split at hx
    · exact absurd hx hw
    · exact hx
  · rw [Schedule.put, List.map_map]
    exact List.map_congr_left hact

/-- The checks of a SUBMIT ACTION, of which each that passes says what the law needs (R62, R65, R67). -/
theorem State.submitRefusal_none {s : State} {x : Submission} (h : s.submitRefusal x = none) :
    (∀ e ∈ s.schedule.entries, e.action.id ≠ x.action.id) ∧ s.schedule.entries.length < 48 ∧
      x.action.fits (fun i => s.lines[i].config.mode) = true ∧
      ∀ c, x.action.chain = some c → ∃ p ∈ s.schedule.entries, p.action.id = c.predecessor ∧
        p.action.rep = none := by
  unfold State.submitRefusal at h
  split at h
  · cases h
  · rename_i hid
    split at h
    · cases h
    · rename_i hroom
      split at h
      · cases h
      · rename_i htarget
        split at h
        · cases h
        · rename_i hguard
          split at h
          · cases h
          · split at h
            · cases h
            · split at h
              · cases h
              · rename_i hchain
                refine ⟨?_, Nat.lt_of_not_le hroom, ?_, ?_⟩
                · exact Schedule.find_none.mp (Option.not_isSome_iff_eq_none.mp hid)
                · unfold Action.fits
                  rw [Bool.and_eq_true]
                  refine ⟨List.all_eq_true.mpr fun t ht => ?_, ?_⟩
                  · have := List.find?_eq_none.mp htarget t.line (List.mem_map_of_mem ht)
                    simpa [Line.isOutput] using this
                  · cases hg : x.action.guard with
                    | none => rfl
                    | some g =>
                      unfold State.badGuard at hguard
                      rw [hg] at hguard
                      dsimp only at hguard
                      split at hguard
                      · assumption
                      · cases hguard
                · intro c hc
                  unfold Schedule.badChain at hchain
                  rw [hc] at hchain
                  dsimp only at hchain
                  split at hchain
                  · rename_i p hp
                    obtain ⟨hmem, hpid⟩ := Schedule.find_some hp
                    split at hchain
                    · cases hchain
                    · rename_i hrep
                      exact ⟨p, hmem, hpid, Option.not_isSome_iff_eq_none.mp hrep⟩
                  · cases hchain

/-- A submission has a due time or a chain, and not both (R63). -/
theorem parseSubmit_due {body : List Byte} {x : Submission} (h : parseSubmit body = some x) :
    x.due.isSome = x.action.chain.isNone := by
  unfold parseSubmit at h
  simp only [Option.bind_eq_bind, Option.bind_eq_some_iff] at h
  obtain ⟨due, -, hold, -, guard, -, rep, -, chain, -, targets, -, h⟩ := h
  split at h
  · rename_i hall
    cases h
    exact hall.2.2.2.2.2
  · cases h

/-- An admission keeps the law (R68): a chained entry stands behind its predecessor. -/
theorem State.referenceLaw_admitted {s : State} (h : s.ReferenceLaw) {x : Submission}
    (hdue : x.due.isSome = x.action.chain.isNone) (hr : s.submitRefusal x = none)
    (hload : s.store.operation.isLoading = false) (hstart : s.starting = false) : (s.admitted x).ReferenceLaw := by
  obtain ⟨hid, hroom, hfits, hchain⟩ := State.submitRefusal_none hr
  obtain ⟨hlen, hnodup, hpred⟩ := h.schedule
  have hmode : (fun i : LineNo => (s.admitted x).lines[i].config.mode) = fun i => s.lines[i].config.mode := by
    funext i
    unfold State.admitted State.addRefs
    rw [State.mapLines_line]
    split <;> rfl
  have hentries : (s.admitted x).schedule.entries =
      s.schedule.entries ++ [admittedEntry x.action (x.dueAt s.now) s.schedule.counter] := by
    unfold State.admitted
    rw [State.addRefs_schedule]
  refine ⟨⟨?_, ?_, ?_⟩, fun i => ?_, fun e he => ?_, fun k d hd => ?_, fun hl => ?_, ?_⟩
  · rw [hentries, List.length_append]; exact hroom
  · rw [hentries, List.map_append, List.nodup_append]
    refine ⟨hnodup, by simp, fun a ha b hb => ?_⟩
    obtain ⟨e, he, rfl⟩ := List.mem_map.mp ha
    rw [List.mem_singleton.mp hb]
    exact hid e he
  · intro earlier later e hsplit hw
    rw [hentries] at hsplit
    rcases List.eq_nil_or_concat later with rfl | ⟨later', last, rfl⟩
    · obtain ⟨rfl, hlast⟩ := List.append_inj' hsplit rfl
      obtain rfl : admittedEntry x.action (x.dueAt s.now) s.schedule.counter = e := by simpa using hlast
      have hnone : x.due = none := by
        cases hd : x.due with
        | none => rfl
        | some d => simp [admittedEntry, Submission.dueAt, hd] at hw
      rw [hnone] at hdue
      obtain ⟨c, hc⟩ : ∃ c, x.action.chain = some c := by
        cases hc : x.action.chain with
        | none => rw [hc] at hdue; cases hdue
        | some c => exact ⟨c, rfl⟩
      obtain ⟨p, hp, hpid, hrep⟩ := hchain c hc
      exact ⟨c, p, hc, hp, hpid, hrep⟩
    · rw [List.concat_eq_append, ← List.cons_append, ← List.append_assoc] at hsplit
      obtain ⟨hsplit, -⟩ := List.append_inj' hsplit rfl
      exact hpred earlier later' e hsplit hw
  · rw [hentries, List.countP_append]
    unfold State.admitted State.addRefs
    rw [State.mapLines_line, State.mapLines_slots]
    have := h.refs i
    simp only [List.countP_cons, List.countP_nil, admittedEntry]
    split
    · dsimp only; omega
    · omega
  · rw [hmode]
    rw [hentries] at he
    rcases List.mem_append.mp he with he | he
    · exact h.actions e he
    · rw [List.mem_singleton.mp he]; exact hfits
  · rw [hmode]
    refine h.definitions k d ?_
    unfold State.admitted at hd
    rwa [State.addRefs_slots] at hd
  · unfold State.admitted at hl
    rw [State.addRefs_store] at hl
    rcases hl with hl | hl
    · exact absurd (hload.symm.trans hl) (by nofun)
    · exact absurd (hstart.symm.trans hl) (by nofun)
  · unfold State.admitted
    rw [State.addRefs_store]
    exact h.store

/-- A definition exchanged for another one, or for none, with its references, keeps the law (R10, R112, R125). -/
theorem State.referenceLaw_exchange {s t : State} (h : s.ReferenceLaw) (k : SlotNo) {slot : Slot}
    (hschedule : t.schedule = s.schedule) (hstore : t.store = s.store)
    (hslots : t.slots = (s.setSlot k slot).slots)
    (hmode : ∀ i : LineNo, t.lines[i].config.mode = s.lines[i].config.mode)
    (hrefs : ∀ i : LineNo, t.lines[i].refs =
      s.lines[i].refs - (if s.slots[k].names i then 1 else 0) + (if slot.names i then 1 else 0))
    (hfits : ∀ d, slot.definition = some d → d.fits (fun i => s.lines[i].config.mode) = true) :
    t.ReferenceLaw := by
  unfold State.ReferenceLaw
  rw [hschedule, hstore, hslots]
  refine ⟨h.schedule, fun i => ?_, fun e he => ?_, fun j d hd => ?_, h.loading, h.store⟩
  · have hcount := refsFrom_setSlot s k slot i
    rw [hrefs i, h.refs i]
    by_cases hold : s.slots[k].names i = true
    · have := refsFrom_pos (slots := s.slots) hold
      rw [if_pos hold] at hcount ⊢
      omega
    · rw [if_neg hold] at hcount ⊢
      omega
  · simpa only [hmode] using h.actions e he
  · simp only [hmode]
    rw [State.setSlot_slot] at hd
    split at hd
    · exact hfits d hd
    · exact h.definitions j d hd

/-- The checks of a DEFINE TRIGGER: the lines named have fitting modes (R111, R112). -/
theorem State.defineRefusal_none {s : State} {k : SlotNo} {d : TriggerDef} (h : s.defineRefusal k d = none) :
    d.fits (fun i => s.lines[i].config.mode) = true := by
  unfold State.defineRefusal at h
  split at h
  · cases h
  · split at h
    · cases h
    · rename_i htarget
      split at h
      · cases h
      · rename_i hwatch
        unfold State.badWatch at hwatch
        split at hwatch
        · cases hwatch
        · rename_i hwatched
          unfold TriggerDef.fits
          rw [Bool.and_eq_true, Bool.and_eq_true]
          refine ⟨⟨List.all_eq_true.mpr fun t ht => ?_, by simpa [Line.isSensed] using hwatched⟩, ?_⟩
          · have := List.find?_eq_none.mp htarget t.line (List.mem_map_of_mem ht)
            simpa [Line.isOutput] using this
          · cases hq : d.qualifier with
            | none => rfl
            | some q =>
              rw [hq] at hwatch
              dsimp only at hwatch
              split at hwatch
              · assumption
              · cases hwatch

/-- A whole profile keeps the law: the schedule is empty while it is read, and its own definitions fit (R26, R129,
R160, R163). -/
theorem State.referenceLaw_applyProfile {s : State} (h : s.ReferenceLaw) {rs : List ProfileRecord}
    (hwhen : s.store.operation.isLoading = true ∨ s.starting = true) (hrs : invalidAt rs = none) :
    (s.applyProfile rs).ReferenceLaw := by
  have hempty := h.loading hwhen
  have hmode : ∀ i : LineNo, (s.applyProfile rs).lines[i].config.mode = profileMode rs i := by
    intro i
    simp only [State.applyProfile, Fin.getElem_fin, Vector.getElem_ofFn, Line.underProfile, Line.drop_config,
      Line.configure_config]
    unfold profileMode
    cases profileConfig rs i <;> rfl
  refine ⟨h.schedule, fun i => ?_, fun e he => ?_, fun k d hd => ?_, fun _ => hempty, h.store⟩
  · have hold := h.refs i
    rw [hempty, List.countP_nil, Nat.zero_add] at hold
    have hline : (s.applyProfile rs).lines[i].refs =
        s.lines[i].refs - refsFrom s.slots i + refsFrom (Vector.ofFn (profileSlot rs)) i := by
      simp only [State.applyProfile, Fin.getElem_fin, Vector.getElem_ofFn, Line.underProfile, Line.drop_refs,
        Line.configure_refs, Fin.eta]
    rw [hline, hold, Nat.sub_self, show (s.applyProfile rs).schedule.entries = [] from hempty]
    rfl
  · rw [show (s.applyProfile rs).schedule.entries = [] from hempty] at he; cases he
  · simp only [hmode]
    refine profileSlot_fits hrs (k := k) ?_
    simpa [State.applyProfile] using hd

/-- A start-up reset establishes the law on the media that it keeps. -/
theorem State.referenceLaw_startUpReset {s : State} (h : s.ReferenceLaw) (c : ResetCause) :
    (s.startUpReset c).ReferenceLaw := by
  refine ⟨⟨Nat.zero_le _, by simp [State.startUpReset, Schedule.afterReset], fun _ _ _ hsplit => ?_⟩,
    fun i => ?_, nofun, fun k d hd => ?_, fun _ => rfl, ⟨h.store.1, trivial⟩⟩
  · simp [State.startUpReset, Schedule.afterReset] at hsplit
  · have hslots : refsFrom (s.startUpReset c).slots i = 0 := by
      refine List.countP_eq_zero.mpr fun k _ => ?_
      simp [State.startUpReset, Slot.names, Slot.empty]
    rw [hslots]
    simp [State.startUpReset, Line.afterReset, Schedule.afterReset]
  · simp [State.startUpReset, Slot.empty] at hd

/-- An advance of the clock keeps the law. -/
theorem State.referenceLaw_tick {s : State} (h : s.ReferenceLaw) (hh : s.held = false) : s.tick.ReferenceLaw := by
  rw [State.tick_running hh]
  refine ReferenceLaw.withStore (ReferenceLaw.withLines h fun i => ?_) ?_ id
  · simp only [Fin.getElem_fin, Vector.getElem_ofFn]
    exact ⟨Line.latch_refs _, fun _ => by rw [Line.latch_config]⟩
  · exact h.store

/-- Every operation of the part keeps the laws of the references. -/
theorem Kept.references : Kept State.ReferenceLaw where
  toLinkKept := .of_insensitive (fun _ _ h => h) (fun _ h => h)
  drawn := fun s h => h
  resampleStraps := fun s h => h
  startUpReset := fun s c h => State.referenceLaw_startUpReset h c
  safeNPin := fun s level h => h
  tick := fun s h hh => State.referenceLaw_tick h hh
  beginSession := fun s ms h _ _ => h
  recover := fun s ms h _ _ => by
    have hdrop : s.dropFailsafeClaims.ReferenceLaw := State.referenceLaw_mapLines h fun i => ⟨rfl, fun _ => rfl⟩
    unfold State.recover State.ReferenceLaw
    rw [State.beginSession_schedule, State.beginSession_lines, State.beginSession_slots, State.beginSession_store]
    exact hdrop
  renew := fun s lease h _ => h
  close := fun s h _ => State.referenceLaw_close h
  closeClear := fun s h _ => State.referenceLaw_closeClear h
  enterFailsafe := fun s c h _ => State.referenceLaw_enterFailsafe h c
  addLineCause := fun s h _ => h
  safeN := fun s f h => h
  disarmWarning := fun s h => h
  circuit := fun s i circuit h => State.referenceLaw_updateLine h i fun l => ⟨rfl, rfl⟩
  filter := fun s i f f' h _ => State.referenceLaw_updateLine h i fun l => ⟨rfl, rfl⟩
  glitch := fun s i f f' h _ => State.referenceLaw_updateLine h i fun l => ⟨rfl, rfl⟩
  expire := fun s i cls h _ => State.referenceLaw_updateLine h i fun l => ⟨rfl, rfl⟩
  configureLines := fun s xs h _ _ hfree => State.referenceLaw_mapLines h fun i => by
    split
    · rename_i x hx
      refine ⟨Line.configure_refs _ _, fun hrefs => ?_⟩
      rw [Line.configure_config]
      obtain rfl : x.line = i := by simpa using List.find?_some hx
      have := List.find?_eq_none.mp hfree x (List.mem_of_find?_eq_some hx)
      simp only [Line.inUseFor, Bool.and_eq_true, decide_eq_true_eq, Bool.or_eq_true, not_and] at this
      by_contra hne
      exact this hne (.inl hrefs)
    · exact ⟨rfl, fun _ => rfl⟩
  setBases := fun s xs h => State.referenceLaw_mapLines h fun i => by split <;> exact ⟨rfl, fun _ => rfl⟩
  setSpecs := fun s xs h => State.referenceLaw_mapLines h fun i => by split <;> exact ⟨rfl, fun _ => rfl⟩
  pinLines := fun s xs h _ => State.referenceLaw_mapLines h fun i => by
    split
    · rw [Line.place_refs, Line.place_config]; exact ⟨rfl, fun _ => rfl⟩
    · exact ⟨rfl, fun _ => rfl⟩
  unpin := fun s picked h => State.referenceLaw_mapLines h fun i => by split <;> exact ⟨rfl, fun _ => rfl⟩
  clearGlitches := fun s i h => State.referenceLaw_updateLine h i fun l => ⟨rfl, rfl⟩
  setSettleTimes := fun s v h => h
  append := fun s e bank h => h
  disarmReady := fun s h => h
  rearm := fun s h => h
  releaseRecords := fun s n h => h
  clearRecords := fun s h => h
  setThreshold := fun s n h => h
  apply := fun s e h _ => State.referenceLaw_applyTargets h _ _ _ _
  leave := fun s q e o h hq he => State.referenceLaw_leave h hq he o
  put := fun s q e h hq he hw => State.referenceLaw_put h hq he hw
  admitted := fun s body x h _ hstart hload hx hr =>
    State.referenceLaw_admitted h (parseSubmit_due hx) hr hload hstart
  dropClaims := fun s cls test h _ => State.referenceLaw_mapLines h fun i => by split <;> exact ⟨rfl, fun _ => rfl⟩
  clearOutcomes := fun s h => ReferenceLaw.withSchedule h h.schedule rfl
  applyTrigger := fun s k d expiry h _ _ => State.referenceLaw_applyTargets h _ _ _ _
  slot := fun s k slot h hd _ => ReferenceLaw.withSlots h fun j => by
    rw [State.setSlot_slot]
    split
    · rename_i hkj; subst hkj; exact hd
    · rfl
  define := fun s k d h _ hr => by
    unfold State.define
    refine State.referenceLaw_exchange h k (slot := .defined d) (by simp) (by simp) (by simp) (fun i => ?_)
      (fun i => ?_) fun d' hd' => ?_
    · rw [State.setSlot_lines, State.addRefs, State.mapLines_line, State.dropRefs, State.mapLines_line]
      split <;> split <;> rfl
    · rw [State.setSlot_lines, State.addRefs, State.mapLines_line, State.dropRefs, State.mapLines_line]
      have hnames : (Slot.defined d).names i = d.names i := rfl
      rw [hnames]
      split <;> split <;> rfl
    · obtain rfl : d = d' := Option.some.inj hd'
      exact State.defineRefusal_none hr
  deleteSlot := fun s k h => by
    refine State.referenceLaw_exchange h k (slot := .empty) (by simp) (by simp) (by simp) (fun i => ?_)
      (fun i => ?_) nofun
    · rw [State.setSlot_lines, State.dropRefs, State.mapLines_line]
      split <;> rfl
    · rw [State.setSlot_lines, State.dropRefs, State.mapLines_line]
      split <;> rfl
  staging := fun s st h hop _ => by
    refine ReferenceLaw.withStore h (Store.lawful_of_media h.store.1 fun p n g t d hc => ?_) id
    rw [show s.store.operation = _ from hc] at hop
    cases hop
  startCommit := fun s p rs h _ hrs => by
    refine ReferenceLaw.withStore h ⟨Media.lawful_setCopy h.store.1 _ _ (by nofun), ⟨rs, rfl, hrs⟩⟩ ?_
    exact fun hl => .inr (hl.resolve_left (by nofun))
  startLoad := fun s p t h _ hop hfree => by
    have hentries : s.schedule.entries = [] := by
      unfold State.loadBlocked at hfree
      simpa using (Bool.or_eq_false_iff.mp hfree).1
    refine ⟨h.schedule, h.refs, h.actions, h.definitions, fun _ => hentries, ⟨h.store.1, trivial⟩⟩
  startErase := fun s p h _ => by
    refine ReferenceLaw.withStore h ⟨Media.lawful_setCopy h.store.1 _ _ (by nofun), trivial⟩ ?_
    exact fun hl => .inr (hl.resolve_left (by nofun))
  startBootWrite := fun s v h _ => by
    refine ReferenceLaw.withStore h ⟨h.store.1, trivial⟩ ?_
    exact fun hl => .inr (hl.resolve_left (by nofun))
  endCommit := fun s p copy g a b c r h hop hc => by
    obtain ⟨rs, hst, hrs⟩ := Store.lawful_committing h.store hop
    have hvalid : ∀ g' rs', c = .valid g' rs' → invalidAt rs' = none := by
      intro g' rs' hcv
      rcases hc with rfl | rfl
      · cases hcv
      · cases hcv
        rw [hst]; exact hrs
    unfold State.endCommit
    refine State.referenceLaw_finishStore h (Media.lawful_setCopy h.store.1 p copy hvalid) ?_ _ _ _
    rfl
  endEraseStep := fun s p first a h _ => by
    refine ReferenceLaw.withStore h ⟨Media.lawful_setCopy (Media.lawful_setCopy h.store.1 _ _ (by nofun)) _ _
      (by nofun), trivial⟩ ?_
    exact fun hl => .inr (hl.resolve_left (by nofun))
  endErase := fun s p first a h _ => by
    unfold State.endErase
    refine State.referenceLaw_finishStore h (Media.lawful_setCopy h.store.1 _ _ (by nofun)) ?_ _ _ _
    rfl
  endBootWrite := fun s v copy g a b c r h _ => by
    unfold State.endBootWrite
    refine State.referenceLaw_finishStore h ?_ ?_ _ _ _
    · exact h.store.1
    · rfl
  endLoad := fun s p a r h _ => State.referenceLaw_finishStore h h.store.1 rfl _ _ _
  applyProfile := fun s p n g rs h hwhen hload =>
    State.referenceLaw_applyProfile h hwhen (h.store.1 p n g rs (CopyPair.loadable_get hload))
  boot := fun s r h hr => by
    refine ReferenceLaw.withStore h (Store.lawful_of_media h.store.1 fun p n g t d hop => ?_) ?_
    · exact Store.lawful_committing h.store hop
    · rintro (hl | hl)
      · exact .inl hl
      · exact absurd (beq_iff_eq.mp hl) hr

/-- Settles O60: each operation of the part keeps the laws of the references, and a step is made of operations. -/
theorem referenceLawsKept : Obligations.ReferenceLawsKept := fun s t h _ _ hs =>
  t.referencesLawful_iff.mpr
    (Kept.references.step (fun _ _ h => h) (fun _ _ h => h) (s.referencesLawful_iff.mp h) hs)

end Sys2Proof.Machine
end


/-! ### The receiver: what each of its events leaves of the link (R175 to R178, R187) -/

section
set_option Elab.async false
namespace Sys2Proof.Machine

variable {s : State}

/-- An event of a running part that leaves this link, with the transmitter's choice made. -/
theorem State.event_arbitrate (h : s.held = false) {f : State → State} {l : Link}
    (hf : f s = s.withLink l) : s.event f = { s with link := l.arbitrate s.now } := by
  rw [State.event_running h, hf]; rfl

/-- An event of a running part that leaves a link on which nothing is to be chosen. -/
theorem State.event_withLink (h : s.held = false) {f : State → State} {l : Link}
    (hf : f s = s.withLink l) (hl : l.settled) : s.event f = { s with link := l } := by
  rw [State.event_arbitrate h hf, Link.settled_arbitrate hl]

/-- An event of a settled part that has no effect. -/
theorem State.event_same (hs : s.link.settled) {f : State → State} (hf : f s = s) :
    s.event f = s := by
  unfold State.event
  split
  · rfl
  · rw [hf, State.arbitrate_settled hs]

theorem State.onRxd_hearing (h : s.hearing) (f : Link → Link) : s.onRxd f = s.withLink (f s.link) := by
  rw [State.onRxd, if_pos (State.hears_iff.mpr h)]

theorem State.onRxd_deaf (h : ¬ s.hearing) (f : Link → Link) : s.onRxd f = s :=
  if_neg (mt State.hears_iff.mp h)

theorem State.receive_hearing (h : s.hearing) (ch : Byte) :
    s.receive ch = (s.withLink (s.link.heard s.now)).examine ch :=
  if_pos (State.hears_iff.mpr h)

/-! #### The buffer -/

theorem Link.bufferBytes_hunting {l : Link} (h : l.framer = .hunting) :
    l.bufferBytes = (l.waiting.map Frame.size).sum := by
  simp [Link.bufferBytes, h]

theorem Link.bufferBytes_receiving {l : Link} {bs : List Byte} {since : Nat}
    (h : l.framer = .receiving bs since) :
    l.bufferBytes = bs.length + (l.waiting.map Frame.size).sum := by
  simp [Link.bufferBytes, h]

theorem badLen_iff {len : Byte} : badLen len = true ↔ len.toNat < 2 ∨ 250 < len.toNat := by
  simp [badLen]

theorem Framer.stores_hunting {ch : Byte} : Framer.stores .hunting ch = true ↔ ch = 0xC3 := by
  simp [Framer.stores, syncByte]

theorem Framer.stores_receiving {bs : List Byte} {since : Nat} {ch : Byte} :
    Framer.stores (.receiving bs since) ch = true ↔
      ¬ (bs.length = 1 ∧ (ch.toNat < 2 ∨ 250 < ch.toNat)) := by
  simp only [Framer.stores, Bool.not_eq_true', Bool.eq_false_iff, ne_eq, Bool.and_eq_true,
    decide_eq_true_eq, badLen_iff]

/-! #### A character examined -/

theorem State.examine_stores {ch : Byte} (h : s.link.framer.stores ch = true) :
    s.examine ch = s.storeCharacter ch := if_pos h

/-- A character that the framer stores, once the bytes do not make a frame whole. -/
theorem State.examine_storing {ch : Byte} {bs : List Byte} {since : Nat}
    (hf : s.link.framer = .receiving bs since)
    (hlen : ¬ (bs.length = 1 ∧ (ch.toNat < 2 ∨ 250 < ch.toNat))) (hroom : s.link.bufferBytes < 512)
    (hpart : bs.length + 1 ≠ wholeLength (bs ++ [ch])) :
    s.examine ch = s.withLink { s.link with framer := .receiving (bs ++ [ch]) s.now } := by
  have hst : s.link.framer.stores ch = true := by rw [hf]; exact Framer.stores_receiving.mpr hlen
  rw [State.examine_stores hst]
  simp only [State.storeCharacter, hf, if_neg hpart, if_neg (Nat.not_le.mpr hroom)]

/-- A character that makes the bytes of a frame whole. -/
theorem State.examine_whole {ch : Byte} {bs : List Byte} {since : Nat}
    (hf : s.link.framer = .receiving bs since)
    (hlen : ¬ (bs.length = 1 ∧ (ch.toNat < 2 ∨ 250 < ch.toNat))) (hroom : s.link.bufferBytes < 512)
    (hwhole : bs.length + 1 = wholeLength (bs ++ [ch])) :
    s.examine ch = s.wholeFrame (bs ++ [ch]) := by
  have hst : s.link.framer.stores ch = true := by rw [hf]; exact Framer.stores_receiving.mpr hlen
  rw [State.examine_stores hst]
  simp only [State.storeCharacter, hf, if_pos hwhole, if_neg (Nat.not_le.mpr hroom)]

/-- A SYNC in HUNTING begins a frame. -/
theorem State.examine_sync (hf : s.link.framer = .hunting) (hroom : s.link.bufferBytes < 512) :
    s.examine 0xC3 = s.withLink { s.link with framer := .receiving [0xC3] s.now } := by
  have hst : s.link.framer.stores 0xC3 = true := by rw [hf]; rfl
  rw [State.examine_stores hst]
  simp only [State.storeCharacter, hf, if_neg (Nat.not_le.mpr hroom)]

/-- A character that the framer would store is lost with its frame to a full buffer. -/
theorem State.examine_overrun {ch : Byte} (hst : s.link.framer.stores ch = true)
    (hfull : 512 ≤ s.link.bufferBytes) : s.examine ch = s.withLink s.link.overrun := by
  rw [State.examine_stores hst, State.storeCharacter, if_pos hfull]

theorem State.examine_noSync {ch : Byte} (hf : s.link.framer = .hunting) (hch : ch ≠ 0xC3) :
    s.examine ch = s := by
  have hst : ¬ s.link.framer.stores ch = true := by rw [hf]; exact mt Framer.stores_hunting.mp hch
  rw [State.examine, if_neg hst, hf]

theorem State.examine_badLen {ch : Byte} {bs : List Byte} {since : Nat}
    (hf : s.link.framer = .receiving bs since) (hlen : bs.length = 1)
    (hch : ch.toNat < 2 ∨ 250 < ch.toNat) : s.examine ch = s.withLink s.link.framingError := by
  have hst : ¬ s.link.framer.stores ch = true := by
    rw [hf]; exact fun h => Framer.stores_receiving.mp h ⟨hlen, hch⟩
  rw [State.examine, if_neg hst, hf]

/-! #### A character received -/

section
variable {ch : Byte} {l : Link}

theorem exec_characterReceived_deaf (hs : s.link.settled) (hd : ¬ s.hearing) :
    exec (.characterReceived ch) s = .next s :=
  congrArg Host.Outcome.next (State.event_same hs (State.receive_deaf hd ch))

/-- A character received, by what the framer makes of it once its stop bit has been heard. -/
theorem exec_characterReceived_hearing (hh : s.held = false) (hd : s.hearing)
    (he : (s.withLink (s.link.heard s.now)).examine ch = s.withLink l) (hl : l.settled) :
    exec (.characterReceived ch) s = .next { s with link := l } :=
  congrArg Host.Outcome.next (State.event_withLink hh ((State.receive_hearing hd ch).trans he) hl)

/-- Settles O9, by the framer's state and what it makes of the character. -/
theorem characterReceived : Obligations.CharacterReceived := by
  refine ⟨fun l => ⟨Link.bufferBytes_hunting, fun bs since => Link.bufferBytes_receiving⟩,
    fun s ch hh hs => ⟨exec_characterReceived_deaf hs, fun hd => ⟨?noSync, ?sync, ?full, ?receiving⟩⟩⟩
  case noSync =>
    intro hf hch
    exact exec_characterReceived_hearing hh hd (State.examine_noSync hf hch) hs
  case sync =>
    rintro hf rfl hroom
    exact exec_characterReceived_hearing hh hd (State.examine_sync hf hroom) hs
  case full =>
    intro hf hch hfull
    have hst : s.link.framer.stores ch = true := by rw [hf]; exact Framer.stores_hunting.mpr hch
    refine (exec_characterReceived_hearing hh hd (State.examine_overrun hst hfull) hs).trans ?_
    simp [Link.overrun, Link.heard, hf, bump16]
  case receiving =>
    intro bs since hf
    refine ⟨fun hlen hch => ?_, fun hlen hfull => ?_, fun hlen hroom hpart => ?_⟩
    · exact exec_characterReceived_hearing hh hd (State.examine_badLen hf hlen hch) hs
    · have hst : s.link.framer.stores ch = true := by rw [hf]; exact Framer.stores_receiving.mpr hlen
      exact exec_characterReceived_hearing hh hd (State.examine_overrun hst hfull) hs
    · refine exec_characterReceived_hearing hh hd (State.examine_storing hf hlen hroom ?_) hs
      simpa [wholeLength] using hpart

end

/-! #### The faults of the receiver -/

/-- A fault of the receiver that comes to a settled link which takes characters. -/
theorem State.event_onRxd (hh : s.held = false) (hd : s.hearing) {f : State → Link → Link} {l : Link}
    (hf : f s s.link = l) (hl : l.settled) :
    s.event (fun s => s.onRxd (f s)) = { s with link := l } :=
  State.event_withLink hh ((State.onRxd_hearing hd _).trans (congrArg _ hf)) hl

theorem State.event_onRxd_deaf (hs : s.link.settled) (hd : ¬ s.hearing) {f : State → Link → Link} :
    s.event (fun s => s.onRxd (f s)) = s :=
  State.event_same hs (State.onRxd_deaf hd _)

theorem Link.atLen_iff {l : Link} : l.atLen = true ↔
    (∃ ch since, l.framer = .receiving [ch] since) ∨ (l.framer = .hunting ∧ l.bufferBytes < 512) := by
  unfold Link.atLen
  cases hf : l.framer with
  | hunting => simp
  | receiving bs since => simp [List.length_eq_one_iff]

/-- A LEN out of range where the framer stands at LEN (R175). -/
theorem exec_lenOutOfRange (hh : s.held = false) (hs : s.link.settled) (hd : s.hearing) (len : Byte) :
    exec (.lenOutOfRange len) s = .next (if badLen len && s.link.atLen then
      { s with link := (s.link.heard s.now).framingError } else s) := by
  refine congrArg Host.Outcome.next ?_
  split
  · next h => exact State.event_onRxd hh hd (if_pos h) hs
  · next h => exact State.event_onRxd hh hd (if_neg h) hs

/-- An overrun by a character that the framer would store in a full buffer (R178). -/
theorem exec_overrun (hh : s.held = false) (hs : s.link.settled) (hd : s.hearing) (ch : Byte) :
    exec (.overrun ch) s =
      .next (if s.link.framer.stores ch && decide (512 ≤ s.link.bufferBytes) then
        { s with link := (s.link.heard s.now).overrun } else s) := by
  refine congrArg Host.Outcome.next ?_
  split
  · next h => exact State.event_onRxd hh hd (if_pos h) hs
  · next h => exact State.event_onRxd hh hd (if_neg h) hs

theorem exec_lenOutOfRange_none (hh : s.held = false) (hs : s.link.settled) (hd : s.hearing)
    {len : Byte} (h : 2 ≤ len.toNat ∧ len.toNat ≤ 250 ∨
      (∃ bs since, s.link.framer = .receiving bs since ∧ bs.length ≠ 1) ∨
      (s.link.framer = .hunting ∧ 512 ≤ s.link.bufferBytes)) :
    exec (.lenOutOfRange len) s = .next s := by
  rw [exec_lenOutOfRange hh hs hd, if_neg]
  simp only [Bool.and_eq_true, badLen_iff, Link.atLen_iff]
  rcases h with h | ⟨bs, since, hf, hlen⟩ | ⟨hf, hfull⟩
  · omega
  · simp only [hf, Framer.receiving.injEq, reduceCtorEq, false_and, or_false, not_and, not_exists]
    rintro - ch _ rfl
    exact absurd rfl hlen
  · simp only [hf, reduceCtorEq, exists_false, false_or, true_and, not_and]
    omega

theorem exec_overrun_none (hh : s.held = false) (hs : s.link.settled) (hd : s.hearing) {ch : Byte}
    (h : s.link.bufferBytes < 512 ∨ (s.link.framer = .hunting ∧ ch ≠ 0xC3) ∨
      (∃ bs since, s.link.framer = .receiving bs since ∧ bs.length = 1 ∧
        (ch.toNat < 2 ∨ 250 < ch.toNat))) : exec (.overrun ch) s = .next s := by
  rw [exec_overrun hh hs hd, if_neg]
  simp only [Bool.and_eq_true, decide_eq_true_eq]
  rcases h with h | ⟨hf, hch⟩ | ⟨bs, since, hf, hlen, hch⟩
  · omega
  · rw [hf, Framer.stores_hunting]; exact fun h => hch h.1
  · rw [hf, Framer.stores_receiving]; exact fun h => h.1 ⟨hlen, hch⟩

/-- A gap in a frame, by its condition (R176). -/
theorem exec_frameGapTimeout (hh : s.held = false) (hs : s.link.settled) :
    exec .frameGapTimeout s = .next (if s.link.gapOver s.now then
      { s with link := s.link.framingError } else s) := by
  refine congrArg Host.Outcome.next ?_
  split
  · next h => exact State.event_withLink hh (if_pos h) hs
  · next h => exact State.event_same hs (if_neg h)

/-- Settles O10: each fault where its condition holds, and where it does not. -/
theorem receiverFaults : Obligations.ReceiverFaults := by
  intro s hh hs
  refine ⟨fun hd => ⟨?crc, ?fault, ?len, ?overrun, ?noLen, ?noOverrun⟩, fun hd => ?deaf, ?gap, ?noGap,
    ?hunting⟩
  case crc => exact congrArg Host.Outcome.next (State.event_onRxd hh hd rfl hs)
  case fault =>
    refine (congrArg Host.Outcome.next (State.event_onRxd hh hd
      (f := fun s l => l.characterFault s.now) (Link.characterFault_eq s.link s.now) hs)).trans ?_
    rw [Rate.charactersTime_one, Rate.characterSpan_eq]
    rfl
  case len =>
    intro len hlen hat
    have hcond : (badLen len && s.link.atLen) = true := by
      simpa only [Bool.and_eq_true, badLen_iff, Link.atLen_iff] using ⟨hlen, hat⟩
    rw [exec_lenOutOfRange hh hs hd, if_pos hcond]
    rfl
  case overrun =>
    intro ch hfull hst
    have hst' : s.link.framer.stores ch = true := by
      rcases hst with ⟨hf, hch⟩ | ⟨bs, since, hf, hlen⟩
      · rw [hf]; exact Framer.stores_hunting.mpr hch
      · rw [hf]; exact Framer.stores_receiving.mpr hlen
    rw [exec_overrun hh hs hd, if_pos (by simp [hst', hfull])]
    rfl
  case noLen => exact fun len => exec_lenOutOfRange_none hh hs hd
  case noOverrun => exact fun ch => exec_overrun_none hh hs hd
  case deaf =>
    exact ⟨congrArg Host.Outcome.next (State.event_onRxd_deaf hs hd), congrArg Host.Outcome.next (State.event_onRxd_deaf hs hd),
      fun _ => congrArg Host.Outcome.next (State.event_onRxd_deaf hs hd),
      fun _ => congrArg Host.Outcome.next (State.event_onRxd_deaf hs hd)⟩
  case gap =>
    intro bs since hf hover
    rw [exec_frameGapTimeout hh hs, if_pos (by simp [Link.gapOver, hf, hover])]
    rfl
  case noGap =>
    intro bs since hf hbefore
    rw [exec_frameGapTimeout hh hs, if_neg (by simp [Link.gapOver, hf, hbefore])]
  case hunting =>
    intro hf
    rw [exec_frameGapTimeout hh hs, if_neg (by simp [Link.gapOver, hf])]

end Sys2Proof.Machine
end


/-! ### Frames that arrive, character by character or whole, and the line break (R175, R177, R184, R187) -/

section
set_option Elab.async false
namespace Sys2Proof.Machine

variable {s : State}

/-! #### The notice in flight -/

/-- The oldest notice goes in flight, in the words of the statements. -/
theorem Link.goInFlight_eq (l : Link) :
    l.goInFlight = { l with inFlight := freshInFlight l.notices } := by
  unfold Link.goInFlight
  cases l.notices <;> rfl

theorem Link.dropOldest_eq (l : Link) : l.dropOldest =
    { l with notices := l.notices.tail, inFlight := freshInFlight l.notices.tail } := by
  rw [Link.dropOldest, Link.goInFlight_eq]

/-- An acknowledgement of the in-flight notice (R184). -/
theorem Link.takeAck_match {l : Link} {n : Notice} {rest : List Notice} (hn : l.notices = n :: rest)
    (h0 : n.number ≠ 0) :
    l.takeAck [n.number] = { l with notices := rest, inFlight := freshInFlight rest } := by
  rw [Link.takeAck, if_neg h0]
  simp [Link.acknowledge, hn, Link.dropOldest_eq]

/-- An acknowledgement that names no notice, or another than the one in flight, is ignored (R184, R196). -/
theorem Link.takeAck_other {l : Link} {body : List Byte}
    (h : ∀ n ∈ l.notices.head?, n.number ≠ 0 → body ≠ [n.number]) : l.takeAck body = l := by
  match body with
  | [] | _ :: _ :: _ => rfl
  | [number] =>
    simp only [Link.takeAck, Link.acknowledge]
    split
    · rfl
    · next h0 =>
      cases hn : l.notices with
      | nil => rfl
      | cons n rest =>
        refine if_neg fun heq => ?_
        subst heq
        exact h n (by simp [hn]) h0 rfl

/-! #### The arrival of a whole frame -/

theorem State.canArrive_iff {f : Frame} : s.canArrive f = true ↔
    f.body.length ≤ 248 ∧ s.hearing ∧ (s.link.waiting.map Frame.size).sum + f.size ≤ 512 := by
  simp only [State.canArrive, Bool.and_eq_true, decide_eq_true_eq, State.hears_iff, and_assoc]

/-- What a request frame's arrival leaves: the renewed lease, the framer in HUNTING, and the frame waiting. -/
theorem State.frameArrives_request (s : State) {f : Frame} (hk : f.kind ≠ 0x70) :
    s.frameArrives f = { s with
      session := s.session.renewedAt s.now
      link := { s.link with
        framer := .hunting, rxd := .high s.now, waiting := s.link.waiting ++ [f] } } := by
  unfold State.frameArrives
  rw [State.renewLease_renewedAt]
  exact congrArg (fun l => { s with session := s.session.renewedAt s.now, link := l }) (if_neg hk)

/-- What an acknowledgement's arrival leaves: the renewed lease, the framer in HUNTING, and the ACK taken. -/
theorem State.frameArrives_ack (s : State) {f : Frame} (hk : f.kind = 0x70) :
    s.frameArrives f = { s with
      session := s.session.renewedAt s.now
      link := ({ s.link with framer := .hunting, rxd := .high s.now }).takeAck f.body } := by
  unfold State.frameArrives
  rw [State.renewLease_renewedAt]
  exact congrArg (fun l => { s with session := s.session.renewedAt s.now, link := l }) (if_pos hk)

/-- A frame arrives on a running part, by what its arrival leaves of the link. -/
theorem exec_validFrameArrival {f : Frame} {l : Link} (hh : s.held = false) (hb : f.body.length ≤ 248)
    (hd : s.hearing) (hroom : (s.link.waiting.map Frame.size).sum + f.size ≤ 512)
    (hf : s.frameArrives f = { s with session := s.session.renewedAt s.now, link := l }) :
    exec (.validFrameArrival f.seq f.kind f.body) s =
      .next { s with session := s.session.renewedAt s.now, link := l.arbitrate s.now } := by
  refine congrArg Host.Outcome.next ?_
  rw [State.event_running hh, if_pos (State.canArrive_iff.mpr ⟨hb, hd, hroom⟩)]
  exact congrArg State.arbitrate hf

/-- A frame arrives on a running part and leaves the transmitter nothing to choose. -/
theorem exec_validFrameArrival_settled {f : Frame} {l : Link} (hh : s.held = false)
    (hb : f.body.length ≤ 248) (hd : s.hearing)
    (hroom : (s.link.waiting.map Frame.size).sum + f.size ≤ 512)
    (hf : s.frameArrives f = { s with session := s.session.renewedAt s.now, link := l })
    (hl : l.settled) : exec (.validFrameArrival f.seq f.kind f.body) s =
      .next { s with session := s.session.renewedAt s.now, link := l } := by
  rw [exec_validFrameArrival hh hb hd hroom hf, Link.settled_arbitrate hl]

/-- Settles O11, by the kind of the frame and the notice in flight. -/
theorem frameArrivals : Obligations.FrameArrivals := by
  intro s f hh hs
  refine ⟨fun _ _ => rfl, fun hb hd hroom => ⟨fun hk => ?request, fun n rest hk hn h0 hbody => ?ack,
    fun hk hother => ?ignored⟩, fun hno => ?none⟩
  case request =>
    exact exec_validFrameArrival_settled hh hb hd hroom (s.frameArrives_request hk) hs
  case ack =>
    refine exec_validFrameArrival hh hb hd hroom ((s.frameArrives_ack hk).trans ?_)
    rw [hbody, Link.takeAck_match (l := { s.link with framer := .hunting, rxd := .high s.now }) hn h0]
  case ignored =>
    refine exec_validFrameArrival_settled hh hb hd hroom
      (l := { s.link with framer := .hunting, rxd := .high s.now })
      ((s.frameArrives_ack hk).trans ?_) hs
    rw [Link.takeAck_other (l := { s.link with framer := .hunting, rxd := .high s.now }) hother]
  case none =>
    refine congrArg Host.Outcome.next (State.event_same hs (if_neg fun h => ?_))
    obtain ⟨hb, hd, hroom⟩ := State.canArrive_iff.mp h
    rcases hno with h | h | h
    · exact absurd hb (Nat.not_le.mpr h)
    · exact h hd
    · exact absurd hroom (Nat.not_le.mpr h)

/-! #### The characters of a frame -/

/-- The part with these bytes of a frame stored, the last of them at this device time. -/
def State.holding (s : State) (bs : List Byte) : State :=
  s.withLink { s.link with framer := .receiving bs s.now, rxd := .high s.now }

/-- The arrival of a frame does not depend on the bytes stored of it. -/
theorem State.holding_frameArrives (s : State) (bs : List Byte) (f : Frame) :
    (s.holding bs).frameArrives f = s.frameArrives f := by
  by_cases hk : f.kind = 0x70
  · rw [State.frameArrives_ack _ hk, State.frameArrives_ack _ hk]; rfl
  · rw [State.frameArrives_request _ hk, State.frameArrives_request _ hk]; rfl

/-- A character that the framer stores within a frame. -/
theorem State.receive_holding (hd : s.hearing) {bs : List Byte} {ch : Byte}
    (hlen : ¬ (bs.length = 1 ∧ (ch.toNat < 2 ∨ 250 < ch.toNat)))
    (hroom : bs.length + (s.link.waiting.map Frame.size).sum < 512)
    (hpart : bs.length + 1 ≠ wholeLength (bs ++ [ch])) :
    (s.holding bs).receive ch = s.holding (bs ++ [ch]) := by
  exact (State.receive_hearing (s := s.holding bs) hd ch).trans
    (State.examine_storing (s := s.holding bs) rfl hlen hroom hpart)

/-- The last character of a frame. -/
theorem State.receive_whole (hd : s.hearing) {bs : List Byte} {ch : Byte}
    (hlen : ¬ (bs.length = 1 ∧ (ch.toNat < 2 ∨ 250 < ch.toNat)))
    (hroom : bs.length + (s.link.waiting.map Frame.size).sum < 512)
    (hwhole : bs.length + 1 = wholeLength (bs ++ [ch])) :
    (s.holding bs).receive ch = (s.holding bs).wholeFrame (bs ++ [ch]) := by
  exact (State.receive_hearing (s := s.holding bs) hd ch).trans
    (State.examine_whole (s := s.holding bs) rfl hlen hroom hwhole)

theorem exec_characterReceived {t : State} {ch : Byte} (hh : s.held = false) (hs : t.link.settled)
    (h : s.receive ch = t) : exec (.characterReceived ch) s = .next t := by
  refine congrArg Host.Outcome.next ?_
  rw [State.event_running hh, h, State.arbitrate_settled hs]

/-- The rest of a frame whose SYNC and LEN are stored, up to its last character. -/
theorem runCommands_holding (hh : s.held = false) (hd : s.hearing) (hs : s.link.settled)
    (len : Byte) (last : Byte) : ∀ (tail stored : List Byte),
    stored.length + tail.length + 3 = len.toNat + 4 →
    stored.length + tail.length + 2 + (s.link.waiting.map Frame.size).sum < 512 →
    runCommands ((tail ++ [last]).map .characterReceived) (s.holding (0xC3 :: len :: stored)) =
      .next ((s.holding (0xC3 :: len :: (stored ++ tail))).wholeFrame
        (0xC3 :: len :: (stored ++ tail ++ [last]))).arbitrate
  | [], stored, hlen, hroom => by
    have hrec := State.receive_whole hd (bs := 0xC3 :: len :: stored) (ch := last) (by simp)
      (by simpa using hroom) (by simpa [wholeLength] using hlen)
    have hexec : exec (.characterReceived last) (s.holding (0xC3 :: len :: stored)) =
        .next ((s.holding (0xC3 :: len :: stored)).wholeFrame
          (0xC3 :: len :: stored ++ [last])).arbitrate := by
      refine congrArg Host.Outcome.next ?_
      rw [State.event_running (s := s.holding (0xC3 :: len :: stored)) hh, hrec]
    simp only [List.nil_append, List.append_nil, List.map_cons, List.map_nil, runCommands, hexec]
    rfl
  | ch :: tail, stored, hlen, hroom => by
    rw [List.length_cons] at hlen hroom
    have hrec := State.receive_holding hd (bs := 0xC3 :: len :: stored) (ch := ch) (by simp)
      (by simp only [List.length_cons]; omega)
      (by simp only [wholeLength, List.length_cons, List.cons_append, List.getD_cons_succ,
            List.getD_cons_zero]; omega)
    have hrest := runCommands_holding hh hd hs len last tail (stored ++ [ch])
      (by simp only [List.length_append, List.length_singleton]; omega)
      (by simp only [List.length_append, List.length_singleton]; omega)
    have hexec := exec_characterReceived (s := s.holding (0xC3 :: len :: stored))
      (t := s.holding (0xC3 :: len :: (stored ++ [ch]))) hh hs hrec
    simp only [List.cons_append, List.map_cons, runCommands, hexec]
    simpa using hrest

/-- The characters of a frame are received one after another up to its last, which the framer checks. -/
theorem runCommands_frame (hh : s.held = false) (hd : s.hearing) (hs : s.link.settled)
    (hf : s.link.framer = .hunting) {len last : Byte} {tail : List Byte}
    (hlen : tail.length + 3 = len.toNat + 4) (hrange : 2 ≤ len.toNat ∧ len.toNat ≤ 250)
    (hroom : tail.length + 3 + (s.link.waiting.map Frame.size).sum ≤ 512) :
    runCommands ((0xC3 :: len :: (tail ++ [last])).map .characterReceived) s =
      .next ((s.holding (0xC3 :: len :: tail)).wholeFrame (0xC3 :: len :: (tail ++ [last]))).arbitrate := by
  have hsync : s.receive 0xC3 = s.holding [0xC3] := by
    have hbuf : (s.withLink (s.link.heard s.now)).link.bufferBytes =
        (s.link.waiting.map Frame.size).sum := Link.bufferBytes_hunting hf
    rw [State.receive_hearing hd,
      State.examine_sync (s := s.withLink (s.link.heard s.now)) hf (by rw [hbuf]; omega)]
    rfl
  have hlenByte : (s.holding [0xC3]).receive len = s.holding [0xC3, len] :=
    State.receive_holding hd (by simp only [List.length_singleton]; omega)
      (by simp only [List.length_singleton]; omega)
      (by simp only [wholeLength, List.length_singleton, List.cons_append, List.nil_append,
            List.getD_cons_succ, List.getD_cons_zero]; omega)
  have hrest := runCommands_holding hh hd hs len last tail [] (by simpa using hlen)
    (by simp only [List.length_nil]; omega)
  have hexec := exec_characterReceived (t := s.holding [0xC3]) hh hs hsync
  have hexec' := exec_characterReceived (s := s.holding [0xC3]) (t := s.holding [0xC3, len]) hh hs
    hlenByte
  simp only [List.map_cons, runCommands, hexec, hexec']
  simpa using hrest

/-- The characters of a frame with these two CHECK bytes are its arrival, or a CRC error. -/
theorem runCommands_checked {f : Frame} (hh : s.held = false) (hd : s.hearing) (hs : s.link.settled)
    (hf : s.link.framer = .hunting) (hb : f.body.length ≤ 248)
    (hroom : (s.link.waiting.map Frame.size).sum + f.size ≤ 512) (high low : Byte) :
    runCommands ((0xC3 :: oneByte (f.body.length + 2) :: f.seq :: f.kind :: f.body ++
        [high, low]).map .characterReceived) s =
      if high ++ low = serialCrc (oneByte (f.body.length + 2) :: f.seq :: f.kind :: f.body) then
        exec (.validFrameArrival f.seq f.kind f.body) s
      else exec .crcError s := by
  have hlen : (oneByte (f.body.length + 2)).toNat = f.body.length + 2 := by
    rw [oneByte, BitVec.toNat_ofNat]; omega
  have hsize : f.size = f.body.length + 6 := rfl
  have hrun := runCommands_frame hh hd hs hf (len := oneByte (f.body.length + 2)) (last := low)
    (tail := f.seq :: f.kind :: (f.body ++ [high]))
    (by simp only [List.length_cons, List.length_append, List.length_nil]; omega) (by omega)
    (by simp only [List.length_cons, List.length_append, List.length_nil]; omega)
  have hshape : 0xC3 :: oneByte (f.body.length + 2) :: f.seq :: f.kind :: f.body ++ [high, low] =
      0xC3 :: oneByte (f.body.length + 2) :: (f.seq :: f.kind :: (f.body ++ [high]) ++ [low]) := by
    simp
  rw [hshape, hrun, ← hshape, State.wholeFrame, ofBytes_append_check]
  split_ifs
  · refine congrArg Host.Outcome.next ?_
    rw [State.event_running hh, if_pos (State.canArrive_iff.mpr ⟨hb, hd, hroom⟩)]
    exact congrArg State.arbitrate (State.holding_frameArrives ..)
  · refine congrArg Host.Outcome.next ?_
    rw [State.event_running hh, State.onRxd_hearing hd]
    rfl

/-- Settles O8, by induction on the characters of the frame after its SYNC and LEN. -/
theorem framerReceivesFrames : Obligations.FramerReceivesFrames := by
  refine ⟨fun f => by simp [Frame.size, Frame.bytes, Frame.checked, Frame.checkBytes], ?_⟩
  intro s f hh hd hf hb hroom hs
  refine ⟨?_, fun high low hne => ?_⟩
  · obtain ⟨high, low, hbytes, hcrc⟩ := exists_bytes_eq_checked_append f
    rw [hbytes]
    exact (runCommands_checked hh hd hs hf hb hroom high low).trans (if_pos hcrc)
  · exact (runCommands_checked hh hd hs hf hb hroom high low).trans (if_neg hne)

/-! #### The line break -/

theorem Rxd.lowForBreak_iff {r : Rxd} {now : Nat} :
    r.lowForBreak now = true ↔ ∃ since, r = .low since ∧ since + 2000 ≤ now := by
  cases r <;> simp [Rxd.lowForBreak]

/-- Settles O12, by what is known of RXD and of a line break present. -/
theorem lineBreaks : Obligations.LineBreaks := by
  intro s hh hs
  refine ⟨fun since hno hrxd hlow => ?broken, fun hnot => ?noBreak, fun hbr => ?breakEnd,
    fun hno => ?noEnd⟩
  case broken =>
    have hcond : (s.link.breakSince.isNone && s.link.rxd.lowForBreak s.now) = true := by
      rw [hno, Bool.and_eq_true]; exact ⟨rfl, Rxd.lowForBreak_iff.mpr ⟨since, hrxd, hlow⟩⟩
    have hset : (s.link.atBreak s.now).settled := fun htx =>
      ⟨(hs htx).1, by simp [Link.readyNotice, Link.atBreak]⟩
    exact congrArg Host.Outcome.next (State.event_withLink hh (if_pos hcond) hset)
  case noBreak =>
    refine congrArg Host.Outcome.next (State.event_same hs (if_neg ?_))
    rw [Bool.and_eq_true, Option.isNone_iff_eq_none, Rxd.lowForBreak_iff]
    rintro ⟨hno, since, hrxd, hlow⟩
    rcases hnot with h | ⟨time, h⟩ | ⟨since', h, hbefore⟩
    · exact h hno
    · rw [hrxd] at h; cases h
    · rw [hrxd] at h; cases h; omega
  case breakEnd =>
    refine (congrArg Host.Outcome.next (State.event_arbitrate hh
      (if_pos (Option.isSome_iff_ne_none.mpr hbr)))).trans ?_
    rw [Link.endBreak_eq, Rate.charactersTime_one]
  case noEnd =>
    exact congrArg Host.Outcome.next (State.event_same hs (if_neg (by simp [hno])))

end Sys2Proof.Machine
end


/-! ### Resets, and the transmitter: its choice, its bytes and bits, and the ends of its frames -/

section
set_option Elab.async false
namespace Sys2Proof.Machine

variable {s t : State}

/-! #### Start-up resets -/

/-- A step takes the front command by definition; settles O1. -/
theorem stepTakesFrontCommand : Obligations.StepTakesFrontCommand := fun _ _ => rfl

/-- A start-up reset of a running part with the straps sampled anew: a link at its reset values chooses nothing. -/
theorem State.resample_arbitrate (s : State) (c : ResetCause) :
    (s.resampleStraps.startUpReset c).arbitrate =
      { s.atReset { s.pins with
          rate1 := Config.strapLevel s.freeIx, rate0 := Config.strapLevel (s.freeIx + 1) } c with
        freeIx := s.freeIx + 2 } := rfl

/-- Settles O5: each reset command by its definition, the clock's limit by whether it has come. -/
theorem startUpResets : Obligations.StartUpResets := by
  refine ⟨rfl, rfl, fun _ _ _ => rfl, fun rate1 rate0 s hrst hsup => ?_, fun rate1 rate0 s hrst hsup => ?_,
    fun _ _ _ hrst => if_pos hrst, fun _ => rfl,
    fun _ => rfl, fun s hh hlast => ?_, fun s hh hbefore hs => ?_⟩
  · have hne : ¬ s.pins.rstN = .low := by rw [hrst]; nofun
    exact (if_neg hne).trans (if_pos hsup)
  · have hne : ¬ s.pins.rstN = .low := by rw [hrst]; nofun
    exact (if_neg hne).trans (if_neg (by rw [hsup]; nofun))
  · refine ⟨Config.strapLevel s.freeIx, Config.strapLevel (s.freeIx + 1), congrArg Host.Outcome.next ?_⟩
    rw [State.event_running hh, if_pos hlast]
    exact State.resample_arbitrate s .clock
  · exact congrArg Host.Outcome.next (State.event_same hs (if_neg (Nat.not_le.mpr hbefore)))

/-! #### The notice queue -/

theorem Link.enqueue_room {l : Link} (h : l.notices.length < 12) (c : NoticeContent) :
    l.enqueue c = { l with
      notices := l.notices ++ [⟨l.nextNumber, l.lossMark, c⟩]
      inFlight := if l.notices = [] then ⟨0, true, none⟩ else l.inFlight
      nextNumber := if l.nextNumber = 255 then 1 else l.nextNumber + 1
      lossMark := false } := by
  rw [Link.enqueue, if_pos h]
  cases hn : l.notices with
  | nil => rfl
  | cons n rest => simp [nextNoticeNumber]

/-- Settles O14, by the session state and the room in the queue. -/
theorem noticeEnqueue : Obligations.NoticeEnqueue := by
  intro s content
  refine ⟨fun hno => ?_, fun hses hroom => ?_, fun hses hfull => ?_, ?_⟩
  · rw [State.enqueue_eq, if_pos hno]
  · rw [State.enqueue_eq, if_neg hses, Link.enqueue_room hroom]
  · rw [State.enqueue_eq, if_neg hses, Link.enqueue, if_neg (Nat.not_lt.mpr hfull)]
    rfl
  · cases h : s.link.notices <;> simp [State.attnAsserted, h]

/-! #### The end of a frame on TXD -/

theorem Link.sentBy_iff {l : Link} {f : Frame} {since now : Nat} :
    l.sentBy f since now = true ↔ since + f.size * 10000000 / l.rate.baud ≤ now := by
  rw [Link.sentBy, decide_eq_true_eq, Rate.charactersTime]

theorem Link.retransmitBy_iff {l : Link} {now : Nat} : l.retransmitBy now = true ↔
    l.breakSince = none ∧ ∃ t ∈ l.inFlight.retransmitAt, t ≤ now := by
  cases h : l.inFlight.retransmitAt <;> simp [Link.retransmitBy, h]

/-- What the end of a notice's transmission does to the link, by whether it was the notice in flight. -/
theorem Link.endNotice_timed {l : Link} {f : Frame} {n : Notice} {rest : List Notice} {now : Nat}
    (hn : l.notices = n :: rest) (hnum : n.number = f.seq) (hdue : l.inFlight.due = false)
    (hcount : l.inFlight.count ≠ 0) :
    l.endNotice f now = { l with
      tx := .idle, inFlight := ⟨l.inFlight.count, false, some (now + 50000)⟩ } := by
  simp [Link.endNotice, Link.endTransmission, hn, hnum, hdue, hcount, retransmissionDelay]

theorem Link.endNotice_untimed {l : Link} {f : Frame} {now : Nat}
    (h : (∀ n ∈ l.notices.head?, n.number ≠ f.seq) ∨ l.inFlight.due = true ∨ l.inFlight.count = 0) :
    l.endNotice f now = { l with tx := .idle } := by
  unfold Link.endNotice Link.endTransmission
  cases hn : l.notices with
  | nil => simp
  | cons n rest =>
    refine if_neg ?_
    rintro ⟨hnum, hdue, hcount⟩
    rcases h with h | h | h
    · exact h n (by simp [hn]) hnum
    · exact hdue h
    · exact hcount h

/-- The end of a notice's transmission on a running part, by whether its characters have had their time. -/
theorem exec_noticeTransmissionEnd {f : Frame} {since : Nat} (hh : s.held = false)
    (htx : s.link.tx = .notice f since) (hover : since + f.size * 10000000 / s.link.rate.baud ≤ s.now) :
    exec .noticeTransmissionEnd s =
      .next { s with link := (s.link.endNotice f s.now).arbitrate s.now } := by
  refine congrArg Host.Outcome.next (State.event_arbitrate hh ?_)
  simp only [htx, if_pos (Link.sentBy_iff.mpr hover)]

/-- Settles O13, by the time of each end and the notice in flight. -/
theorem noticeDelivery : Obligations.NoticeDelivery := by
  intro s hh hs
  refine ⟨fun f since htx hbefore => ?before, fun f since htx hover => ⟨?timed, ?untimed⟩,
    fun t ht hbr hdue => ⟨fun hcount => ?again, fun hcount => ?lost⟩, fun hnot => ?notYet⟩
  case before =>
    refine congrArg Host.Outcome.next (State.event_same hs ?_)
    simp only [htx, if_neg (mt Link.sentBy_iff.mp (Nat.not_le.mpr hbefore))]
  case timed =>
    intro n rest hn hnum hdue hcount
    rw [exec_noticeTransmissionEnd hh htx hover, Link.endNotice_timed hn hnum hdue hcount]
  case untimed =>
    intro hnot
    rw [exec_noticeTransmissionEnd hh htx hover, Link.endNotice_untimed hnot]
  case again =>
    refine congrArg Host.Outcome.next (State.event_arbitrate hh ?_)
    rw [if_pos (Link.retransmitBy_iff.mpr ⟨hbr, t, ht, hdue⟩), Link.retransmit, if_pos hcount]
  case lost =>
    refine congrArg Host.Outcome.next (State.event_arbitrate hh ?_)
    rw [if_pos (Link.retransmitBy_iff.mpr ⟨hbr, t, ht, hdue⟩), Link.retransmit,
      if_neg (Nat.not_lt.mpr hcount), Link.dropOldest_eq]
    rfl
  case notYet =>
    refine congrArg Host.Outcome.next (State.event_same hs (if_neg ?_))
    rw [Link.retransmitBy_iff]
    rintro ⟨hbr, t, ht, hdue⟩
    rcases hnot with h | h
    · exact absurd hdue (Nat.not_le.mpr (h t ht))
    · exact h hbr

/-! #### RESET -/

section
variable {f : Frame} {own : List Byte → State → Answer} {c : Instr} {st : Status} {content : List Byte}

/-- A request that passes checks 1 to 5 and that its block takes: the state that the block leaves, answered. -/
theorem State.serve_passes_answered (h : s.passes c f)
    (ho : own f.body (s.received f) = .done st content t) :
    s.serve f own = t.answered f st.code content :=
  have ⟨hq, hk, hg⟩ := State.passes_gate h
  State.serve_taken hq hk hg ho

/-- A state answered on an idle TXD with no notice due: the reply begins. -/
theorem State.answered_idle (htx : t.link.tx = .idle) (hd : t.link.inFlight.due = false)
    (hr : t.link.reply = none) (code : Byte) :
    t.answered f code content =
      t.withLink (t.link.sending f ⟨f.seq, f.kind ||| 0x80, code :: content⟩ t.now) := by
  simp [State.answered, Link.arbitrate, Link.readyNotice, Link.startReply, Link.sending,
    State.withLink, htx, hd, hr]

/-- The link of a request received on a link that is free for it. -/
theorem State.free_received (h : s.free f) : (s.received f).link.tx = .idle ∧
    (s.received f).link.inFlight.due = false ∧ (s.received f).link.reply = none := by
  obtain ⟨⟨-, -, -, -, hr⟩, htx, hd⟩ := h
  exact ⟨by simpa using htx, by simpa using hd, by simpa using hr⟩

end

/-- The end of a reply on TXD, by whether a RESET waits for it. -/
theorem State.endReply_eq {f : Frame} {since : Nat} (htx : s.link.tx = .reply f since)
    (hover : since + f.size * 10000000 / s.link.rate.baud ≤ s.now) :
    s.endReply = if s.link.resetPending then s.resampleStraps.startUpReset .request
      else s.withLink { s.link with tx := .idle } := by
  simp only [State.endReply, htx, if_pos (Link.sentBy_iff.mpr hover)]
  rfl

/-- Settles O6: the answer to RESET, and the end of a reply by whether a RESET waits for it. -/
theorem resetRequestAndReplyEnd : Obligations.ResetRequestAndReplyEnd := by
  refine ⟨fun s seq hpass => ?reset, fun s f since hh htx => ⟨fun hover => ⟨fun hno => ?free,
    fun hreset => ?restart⟩, fun hbefore => ?before⟩⟩
  case reset =>
    obtain ⟨-, -, ⟨hfree, -⟩, -⟩ := id hpass
    obtain ⟨htx, hd, hr⟩ := State.free_received hfree
    have hexec : exec (.reset seq []) s = .next (s.serve ⟨seq, 0x03, []⟩ answerReset) := rfl
    have hanswer : answerReset [] (s.received ⟨seq, 0x03, []⟩) =
      .done .ok [] (s.received ⟨seq, 0x03, []⟩).resetAfterReply := rfl
    rw [hexec, State.serve_passes_answered hpass hanswer,
      State.answered_idle (t := (s.received _).resetAfterReply) htx hd hr]
    simp [State.resetAfterReply, State.withLink, State.serving, Link.sending, Status.code]
  case free =>
    refine congrArg Host.Outcome.next (State.event_arbitrate hh ((State.endReply_eq htx hover).trans ?_))
    rw [if_neg (by simp [hno])]
  case restart =>
    refine ⟨Config.strapLevel s.freeIx, Config.strapLevel (s.freeIx + 1), congrArg Host.Outcome.next ?_⟩
    rw [State.event_running hh, State.endReply_eq htx hover, if_pos hreset]
    exact State.resample_arbitrate s .request
  case before =>
    have hs : s.link.settled := fun hidle => by rw [htx] at hidle; cases hidle
    refine congrArg Host.Outcome.next (State.event_same hs ?_)
    simp only [State.endReply, htx, if_neg (mt Link.sentBy_iff.mp (Nat.not_le.mpr hbefore))]

/-! #### The level of TXD -/

@[simp] theorem uartLevels_length (b : Byte) : (uartLevels b).length = 10 := by simp [uartLevels]

/-- The level of a character at each of its ten bit times. -/
theorem uartLevels_getElem? (b : Byte) {k : Nat} (hk : k < 10) : (uartLevels b)[k]? = some
    (if k = 0 then .low else if k = 9 then .high else if b.getLsbD (k - 1) then .high else .low) := by
  match k, hk with
  | 0, _ | 1, _ | 2, _ | 3, _ | 4, _ | 5, _ | 6, _ | 7, _ | 8, _ | 9, _ => rfl

/-- The levels of characters back to back, by character and bit time. -/
theorem flatMap_uartLevels_getElem? {b : Byte} {k : Nat} (hk : k < 10) : ∀ {bs : List Byte} {n : Nat},
    bs[n]? = some b → (bs.flatMap uartLevels)[10 * n + k]? = (uartLevels b)[k]?
  | x :: bs, 0, h => by
    obtain rfl : x = b := by simpa using h
    rw [List.flatMap_cons, List.getElem?_append_left (by simp; omega)]
    simp
  | x :: bs, n + 1, h => by
    have hrest := flatMap_uartLevels_getElem? hk (bs := bs) (n := n) (by simpa using h)
    rw [List.flatMap_cons, List.getElem?_append_right (by simp; omega), uartLevels_length, ← hrest]
    congr 1
    omega

/-- The level of TXD while it carries a frame, by the bit time that the frame has come to. -/
theorem Link.txd_eq {l : Link} {f : Frame} {since now n k : Nat} {b : Byte}
    (htx : l.tx = .reply f since ∨ l.tx = .notice f since)
    (hbit : (now - since) * l.rate.baud / 1000000 = 10 * n + k) (hk : k < 10)
    (hb : f.bytes[n]? = some b) : l.txd now =
      if k = 0 then .low else if k = 9 then .high
      else if b.getLsbD (k - 1) then .high else .low := by
  have hlevel : l.txd now = f.levels.getD (10 * n + k) .high := by
    rcases htx with h | h <;> simp only [Link.txd, h, hbit]
  rw [hlevel, List.getD_eq_getElem?_getD, Frame.levels, flatMap_uartLevels_getElem? hk hb,
    uartLevels_getElem? b hk]
  rfl

/-! #### The transmitter's choice -/

theorem Link.readyNotice_none {l : Link}
    (h : l.inFlight.due = false ∨ l.breakSince ≠ none ∨ l.notices = []) : l.readyNotice = none := by
  unfold Link.readyNotice
  rcases h with h | h | h
  · simp [h]
  · obtain ⟨t, ht⟩ := Option.ne_none_iff_exists'.mp h
    simp [ht]
  · simp [h]

theorem Link.readyNotice_some {l : Link} {n : Notice} {rest : List Notice} (hn : l.notices = n :: rest)
    (hd : l.inFlight.due = true) (hb : l.breakSince = none) : l.readyNotice = some n.frame := by
  simp [Link.readyNotice, hn, hd, hb]

/-- Settles O15: the bytes of notices by their definition, the level of TXD by the bit time, and the choice by
what is ready. -/
theorem transmitterChoice : Obligations.TransmitterChoice := by
  refine ⟨fun content => by cases content <;> rfl, fun r => ?record, fun l now => ⟨fun htx => ?idle,
    fun f since n k b htx hbit hk hb => Link.txd_eq htx hbit hk hb⟩, fun l now r n rest => ⟨fun htx => ?busy,
    fun htx => ⟨fun hr hn => ?nothing, fun hr hn => ?reply, fun hn hd hb => ⟨fun hfirst => ?notice,
      fun hr hlast => ?replyFirst⟩⟩⟩⟩
  case record =>
    obtain ⟨id, outcome, completion, applied, skipped⟩ := r
    cases outcome with
    | cancelled cause => cases cause <;> rfl
    | applied | skipped | expired | orphaned | aborted => rfl
  case idle => simp only [Link.txd, htx]
  case busy =>
    cases h : l.tx with
    | idle => exact absurd h htx
    | reply | notice => simp only [Link.arbitrate, h]
  case nothing => simp only [Link.arbitrate, htx, hr, Link.readyNotice_none hn]
  case reply => simp only [Link.arbitrate, htx, hr, Link.readyNotice_none hn, Link.startReply]
  case notice =>
    have hready := Link.readyNotice_some hn hd hb
    rcases hfirst with hr | hlast
    · simp only [Link.arbitrate, htx, hr, hready, Link.startNotice, Notice.frame]
    · cases hr : l.reply <;>
        simp only [Link.arbitrate, htx, hr, hready, hlast, Link.startNotice, Notice.frame]
  case replyFirst =>
    have hready := Link.readyNotice_some hn hd hb
    cases hl : l.lastSent with
    | reply => exact absurd hl hlast
    | notice | nothing => simp only [Link.arbitrate, htx, hr, hready, hl, Link.startReply]

end Sys2Proof.Machine
end


/-! ### The reset state, and checks 1 to 5 of a request (R179) -/

section
set_option Elab.async false
namespace Sys2Proof.Machine

variable {s : State}

/-! #### The state after reset -/

theorem State.reset_line (i : LineNo) : State.reset.lines[i] = .afterReset .pullUp := by
  simp [State.reset]

theorem State.reset_slot (k : SlotNo) : State.reset.slots[k] = .empty := by simp [State.reset]

theorem State.reset_linesLawful : State.reset.linesLawful := fun i => by
  rw [State.reset_line]; exact ⟨rfl, rfl, Nat.zero_le _⟩

theorem State.reset_bounded : State.reset.bounded :=
  ⟨⟨trivial, by decide, by decide, by decide, by decide, by decide, by decide, by decide, by decide⟩,
    fun _ => ⟨rfl, rfl⟩, fun _ => rfl, by decide, by decide⟩

theorem State.reset_failsafeLawful : State.reset.failsafeLawful :=
  ⟨nofun, fun _ i => by rw [State.reset_line]; rfl, fun _ => rfl⟩

/-- Nothing is queued and no slot is defined, so no line is named. -/
theorem State.reset_referencesLawful : State.reset.referencesLawful := by
  refine ⟨⟨Nat.zero_le _, List.nodup_nil, ?_⟩, fun i => ?_, nofun, fun k d hd => ?_, fun _ => rfl, ?_,
    trivial⟩
  · intro earlier later e he
    exact absurd he.symm (List.append_ne_nil_of_right_ne_nil _ nofun)
  · have hslots : refsFrom State.reset.slots i = 0 :=
      List.countP_eq_zero.mpr fun k _ => by rw [State.reset_slot]; nofun
    rw [State.reset_line, hslots]
    rfl
  · rw [State.reset_slot] at hd; cases hd
  · intro p n g rs h
    have herased : State.reset.store.media.slots[p] = ⟨.erased, .erased⟩ := by
      simp [State.reset, Store.afterReset, Media.shipped]
    rw [herased] at h
    cases n <;> cases h

/-- Settles O4: each reset value by computation, and each law from the empty lists. -/
theorem resetState : Obligations.ResetState := by
  refine ⟨rfl, rfl, rfl, rfl, fun i => ?_, rfl, rfl, State.reset_slot, rfl, rfl, rfl, rfl, rfl, rfl, rfl,
    fun p => ?_, rfl, rfl, rfl, rfl, rfl, rfl, rfl, rfl, rfl, rfl, rfl, rfl, rfl, rfl, rfl, rfl, rfl, rfl, rfl,
    rfl, rfl, rfl, rfl, nofun, ?_, State.reset_linesLawful, State.reset_bounded,
    State.reset_failsafeLawful, State.reset_referencesLawful⟩
  · rw [State.reset_line]; exact ⟨rfl, rfl, rfl, rfl, rfl⟩
  · simp [State.reset, Store.afterReset, Media.shipped]
  · exact ⟨Nat.zero_le _, nofun, nofun, nofun⟩

/-! #### Requests as commands -/

section
variable {c : Instr} {f : Frame}

theorem frame_kind_mem (hf : c.frame? = some f) (hk : c.isKnownRequest = true) :
    f.kind ∈ requestKinds := by
  cases c <;> first | exact absurd hk Bool.false_ne_true | (cases hf; exact List.elem_iff.mp rfl)

theorem requestKinds_ne_ack {kind : Byte} (h : kind ∈ requestKinds) : kind ≠ ackKind := by
  rintro rfl; exact absurd h (by decide)

/-- A command that carries a frame is of one of the 40 kinds, or a frame of another kind. -/
theorem frame_cases (hf : c.frame? = some f) :
    c.isKnownRequest = true ∨ c = .unknownRequest f.seq f.kind f.body := by
  cases c with
  | unknownRequest => cases hf; exact .inr rfl
  | _ => exact .inl (Option.isSome_of_eq_some hf)

theorem unknownRequest_wellFormed (f : Frame) :
    (Instr.unknownRequest f.seq f.kind f.body).wellFormed = true ↔
      f.body.length ≤ 248 ∧ f.kind ≠ 0x70 ∧ f.kind ∉ requestKinds := by
  have hknown : requestKinds.contains f.kind = false ↔ f.kind ∉ requestKinds := by simp
  simp only [Instr.wellFormed, wellFormedBody, ackKind, Bool.and_eq_true, decide_eq_true_eq,
    Bool.not_eq_true', hknown, bne_iff_ne, and_assoc, and_comm (a := f.kind ∉ requestKinds)]

/-- A request is well formed when its body fits a frame and its kind is its own. -/
theorem wellFormed_iff (hf : c.frame? = some f) : c.wellFormed = true ↔ f.body.length ≤ 248 ∧
    (c.isKnownRequest = true ∨ f.kind ≠ 0x70 ∧ f.kind ∉ requestKinds) := by
  rcases frame_cases hf with hk | rfl
  · have hbody : c.wellFormed = decide (f.body.length ≤ 248) := by
      cases c <;> first | exact absurd hk Bool.false_ne_true | (cases hf; rfl)
    simp [hbody, hk]
  · simp [unknownRequest_wellFormed, Instr.isKnownRequest]

/-- A well-formed command that carries a request frame is that frame served, by the block that owns its kind. -/
theorem exec_serve (hf : c.frame? = some f) (hw : c.wellFormed = true) :
    f.kind ≠ ackKind ∧ ∃ own : List Byte → State → Answer, ∀ s, exec c s = .next (s.serve f own) := by
  rcases frame_cases hf with hk | rfl
  · refine ⟨requestKinds_ne_ack (frame_kind_mem hf hk), ?_⟩
    cases c <;> first | exact absurd hk Bool.false_ne_true | (cases hf; exact ⟨_, fun _ => rfl⟩)
  · obtain ⟨-, hack, hunknown⟩ := (unknownRequest_wellFormed f).mp hw
    have hkind : (requestKinds.contains f.kind || f.kind == ackKind) = false := by
      simpa [ackKind] using ⟨hunknown, hack⟩
    exact ⟨hack, answerUnknown, fun s => if_neg (by rw [hkind]; nofun)⟩

/-- The gating by the session state, by kind and by command (R147). -/
theorem sessionGate_eq (hf : c.frame? = some f) (hk : c.isKnownRequest = true) (st : SessionState) :
    sessionGate f.kind st = c.sessionRefusal st := by
  cases c <;> first | exact absurd hk Bool.false_ne_true | (cases hf; cases st <;> rfl)

/-- What R163 lists, by kind and by command. -/
theorem refusedWhileLoading_eq (hf : c.frame? = some f) (hk : c.isKnownRequest = true)
    (hl : lengthFits f.kind f.body = true) : refusedWhileLoading f = c.refusedLoading := by
  cases c with
  | close seq body =>
    cases hf
    obtain ⟨b, rfl⟩ := List.length_eq_one_iff.mp (of_decide_eq_true hl)
    rw [Bool.eq_iff_iff]
    simp [refusedWhileLoading, Instr.refusedLoading, byteAt, ← BitVec.toNat_inj]
  | _ => first | exact absurd hk Bool.false_ne_true | (cases hf; rfl)

end

/-! #### Body lengths (R193) -/

/-- The length of a layout with a count byte, as that byte is carried. -/
theorem countedLength_iff {body : List Byte} {fixed countAt item : Nat} :
    countedLength body fixed countAt item = true ↔
      ∃ count : Byte, body[countAt]? = some count ∧ body.length = fixed + item * count.toNat := by
  simp only [countedLength, byteAt, Bool.and_eq_true, decide_eq_true_eq, List.getD_eq_getElem?_getD]
  constructor
  · rintro ⟨hat, hlen⟩
    exact ⟨body[countAt], List.getElem?_eq_getElem hat, by simpa [hat] using hlen⟩
  · rintro ⟨count, hat, hlen⟩
    exact ⟨(List.getElem?_eq_some_iff.mp hat).1, by simpa [hat] using hlen⟩

/-- The body length that the kind of a profile record asks for. -/
theorem recordLengthFits_cons {kind len : Byte} {rest : List Byte} :
    recordLengthFits (kind :: len :: rest) = true ↔ rest.length = len.toNat ∧
      (kind = 1 → ∃ count : Byte, rest[1]? = some count ∧ len.toNat = 2 + 5 * count.toNat) ∧
      (kind = 2 → len = 8) ∧ (kind = 3 → len = 2) ∧ (kind = 4 → len = 30) ∧
      (kind = 5 → 1 ≤ len.toNat ∧ len.toNat ≤ 32) := by
  have hcount : (4 ≤ rest.length + 2 ∧ len.toNat = 2 + 5 * (rest.getD 1 0).toNat) ↔
      ∃ count : Byte, rest[1]? = some count ∧ len.toNat = 2 + 5 * count.toNat := by
    match rest with
    | [] | [_] => simp
    | _ :: _ :: _ => simp
  have htotal : (kind :: len :: rest).length = 2 + byteAt (kind :: len :: rest) 1 ↔
      rest.length = len.toNat := by
    simp only [List.length_cons, byteAt, List.getD_cons_succ, List.getD_cons_zero]; omega
  have hlen : ∀ n : Nat, n < 256 → (len.toNat = n ↔ len = BitVec.ofNat 8 n) := fun n hn => by
    rw [← BitVec.toNat_inj, BitVec.toNat_ofNat, Nat.mod_eq_of_lt hn]
  simp only [recordLengthFits, Bool.and_eq_true, decide_eq_true_eq, htotal]
  simp only [byteAt, List.length_cons, List.getD_cons_succ, List.getD_cons_zero, Nat.le_add_left,
    true_and]
  refine and_congr_right fun _ => ?_
  split
  case h_1 h =>
    obtain rfl : kind = 1 := BitVec.eq_of_toNat_eq h
    simpa using hcount
  case h_2 h =>
    obtain rfl : kind = 2 := BitVec.eq_of_toNat_eq h
    simpa using hlen 8 (by omega)
  case h_3 h =>
    obtain rfl : kind = 3 := BitVec.eq_of_toNat_eq h
    simpa using hlen 2 (by omega)
  case h_4 h =>
    obtain rfl : kind = 4 := BitVec.eq_of_toNat_eq h
    simpa using hlen 30 (by omega)
  case h_5 h =>
    obtain rfl : kind = 5 := BitVec.eq_of_toNat_eq h
    simp
  case h_6 h1 h2 h3 h4 h5 =>
    refine iff_of_true rfl ⟨fun h => ?_, fun h => ?_, fun h => ?_, fun h => ?_, fun h => ?_⟩ <;> subst h
    · exact (h1 rfl).elim
    · exact (h2 rfl).elim
    · exact (h3 rfl).elim
    · exact (h4 rfl).elim
    · exact (h5 rfl).elim

/-- The body of an APPEND RECORD: kind, length and fields of a profile record. -/
theorem lengthFits_append {body : List Byte} : lengthFits 0x51 body = true ↔
    ∃ (kind len : Byte) (rest : List Byte), body = kind :: len :: rest ∧ rest.length = len.toNat ∧
      (kind = 1 → ∃ count : Byte, rest[1]? = some count ∧ len.toNat = 2 + 5 * count.toNat) ∧
      (kind = 2 → len = 8) ∧ (kind = 3 → len = 2) ∧ (kind = 4 → len = 30) ∧
      (kind = 5 → 1 ≤ len.toNat ∧ len.toNat ≤ 32) := by
  match body with
  | [] | [_] => simp [lengthFits, recordLengthFits]
  | kind :: len :: rest =>
    refine recordLengthFits_cons.trans ⟨fun h => ⟨kind, len, rest, rfl, h⟩, ?_⟩
    rintro ⟨_, _, _, heq, h⟩
    cases heq
    exact h

/-! #### The order of the checks -/

section
variable {c : Instr} {f : Frame}

/-- A request that is no duplicate and that the gate refuses, as a command. -/
theorem exec_gated (hf : c.frame? = some f) (hw : c.wellFormed = true) (hq : s.quiet f) {st : Status}
    (hg : gate f (s.received f) = some st) : exec c s = .next (s.refusing f st.code []) := by
  obtain ⟨hkind, own, hexec⟩ := exec_serve hf hw
  rw [hexec, State.serve_gated hq hkind hg]

theorem gate_starting (hs : s.starting = true) (hk : f.kind ≠ 0x01) :
    gate f (s.received f) = some .starting := by
  rw [gate_received, gate, if_pos (by rw [hs, bne_iff_ne.mpr hk]; rfl)]

theorem gate_unknown (hs : s.starting = false ∨ f.kind = 0x01) (hk : f.kind ∉ requestKinds) :
    gate f (s.received f) = some .unknownKind := by
  rw [gate_received, gate, if_neg (by rcases hs with h | h <;> simp [h]), if_pos (by simp [hk])]

/-- Checks 1 and 2 of R179 passed, check 3 refuses. -/
theorem gate_badLength (hs : s.starting = false ∨ f.kind = 0x01) (hk : f.kind ∈ requestKinds)
    (hl : lengthFits f.kind f.body = false) : gate f (s.received f) = some .badLength := by
  rw [gate_received, gate, if_neg (by rcases hs with h | h <;> simp [h]), if_neg (by simp [hk]),
    if_pos (by simp [hl])]

/-- Checks 1 to 3 of R179 passed, check 4 refuses. -/
theorem gate_session (hs : s.starting = false ∨ f.kind = 0x01) (hk : f.kind ∈ requestKinds)
    (hl : lengthFits f.kind f.body = true) {st : Status}
    (hg : sessionGate f.kind s.session.state = some st) : gate f (s.received f) = some st := by
  rw [gate_received, gate, if_neg (by rcases hs with h | h <;> simp [h]), if_neg (by simp [hk]),
    if_neg (by simp [hl])]
  simp only [hg]

/-- Checks 1 to 4 of R179 passed, check 5 refuses. -/
theorem gate_loading (hs : s.starting = false ∨ f.kind = 0x01) (hk : f.kind ∈ requestKinds)
    (hl : lengthFits f.kind f.body = true) (hg : sessionGate f.kind s.session.state = none)
    (ho : s.store.operation.isLoading = true) (hr : refusedWhileLoading f = true) :
    gate f (s.received f) = some .loading := by
  rw [gate_received, gate, if_neg (by rcases hs with h | h <;> simp [h]), if_neg (by simp [hk]),
    if_neg (by simp [hl])]
  simp only [hg, ho, hr, Bool.and_self, if_true]

/-- Settles O17: the kinds and lengths by their tables, and the refusals in the order of the gate's checks. -/
theorem refusalOrder : Obligations.RefusalOrder := by
  refine ⟨⟨rfl, fun _ _ => rfl⟩, fun c f hf => wellFormed_iff hf,
    fun body => ⟨?fixed, ?counted, lengthFits_append⟩, rfl, fun s => ⟨?starting, ?loading⟩,
    fun c f s hf hw hq => ⟨fun hs hk => exec_gated hf hw hq (gate_starting hs hk),
      fun hs => ⟨?unknown, ?badLength, fun hk hl => ⟨fun st hst => ?session, fun hst hload href => ?refused⟩⟩⟩⟩
  case fixed =>
    simp only [List.forall_mem_cons, List.not_mem_nil, false_implies, implies_true, and_true]
    repeat' apply And.intro
    all_goals exact decide_eq_true_iff
  case counted =>
    simp only [List.forall_mem_cons, List.not_mem_nil, false_implies, implies_true, and_true]
    repeat' apply And.intro
    all_goals exact countedLength_iff
  case starting => simp [State.starting]
  case loading => cases h : s.store.operation <;> simp [Operation.isLoading]
  case unknown =>
    intro hk
    rcases frame_cases hf with h | rfl
    · rw [h] at hk; cases hk
    · obtain ⟨-, -, hunknown⟩ := (unknownRequest_wellFormed f).mp hw
      exact exec_gated hf hw hq (gate_unknown hs hunknown)
  case badLength =>
    intro hk hl
    exact exec_gated hf hw hq (gate_badLength hs (frame_kind_mem hf hk) hl)
  case session =>
    exact exec_gated hf hw hq
      (gate_session hs (frame_kind_mem hf hk) hl ((sessionGate_eq hf hk _).trans hst))
  case refused =>
    exact exec_gated hf hw hq (gate_loading hs (frame_kind_mem hf hk) hl
      ((sessionGate_eq hf hk _).trans hst) hload ((refusedWhileLoading_eq hf hk hl).trans href))

end

end Sys2Proof.Machine
end


/-! ### Requests of the session and of the part: IDENTIFY to RECOVER (R134 to R148, R188) -/

section
set_option Elab.async false
namespace Sys2Proof.Machine

variable {s t u : State}

/-! #### A request that passes checks 1 to 5, by its owning block's answer -/

section
variable {c : Instr} {f : Frame} {own : List Byte → State → Answer} {st : Status} {content : List Byte}

theorem passes_length (h : s.passes c f) : lengthFits f.kind f.body = true := h.2.2.2.2.1

theorem passes_quiet (h : s.passes c f) : s.quiet f := h.2.2.1

/-- The link of a request received is free for its reply. -/
theorem passes_received (h : s.passes c f) : (s.received f).link.tx = .idle ∧
    (s.received f).link.inFlight.due = false ∧ (s.received f).link.reply = none :=
  State.free_received (passes_quiet h).1

/-- The request is refused by its owning block, and nothing changes. -/
theorem exec_refused (hexec : exec c s = .next (s.serve f own)) (h : s.passes c f)
    {addition : List Byte} (ho : own f.body (s.received f) = .refuse st addition) :
    exec c s = .next (s.refusing f st.code addition) := by
  rw [hexec, State.serve_passes_refused h ho]

/-- The request is answered, and nothing changes. -/
theorem exec_read (hexec : exec c s = .next (s.serve f own)) (h : s.passes c f)
    (ho : own f.body (s.received f) = .done st content (s.received f)) :
    exec c s = .next (s.serving f st.code content) := by
  rw [hexec, State.serve_passes_read h ho]

/-- The request is answered, and its owning block leaves this state and the link alone. -/
theorem exec_done (hexec : exec c s = .next (s.serve f own)) (h : s.passes c f)
    (ho : own f.body (s.received f) = .done st content t) (hl : t.link = (s.received f).link)
    (hn : t.now = s.now) :
    exec c s = .next { t with link := (s.serving f st.code content).link } := by
  rw [hexec, State.serve_passes_done h ho hl hn]

/-- The request is answered in the state that its owning block leaves. -/
theorem exec_answered (hexec : exec c s = .next (s.serve f own)) (h : s.passes c f)
    (ho : own f.body (s.received f) = .done st content t) :
    exec c s = .next (t.answered f st.code content) := by
  rw [hexec, State.serve_passes_answered h ho]

end

/-- The renewal of the lease at an arrival is overwritten by another start of the timer. -/
theorem State.received_session_timer (s : State) (f : Frame) (deadline warning : Option Nat) :
    { (s.received f).session with deadline := deadline, warning := warning } =
      { s.session with deadline := deadline, warning := warning } := by
  unfold State.received Session.renewedAt
  split
  · rfl
  · dsimp only; split <;> rfl

/-! #### IDENTIFY and STATUS -/

theorem FailsafeRecord.causeByte_toNat (r : FailsafeRecord) : r.causeByte.toNat =
    (if r.hasLease then 1 else 0) + (if r.hasRequest then 2 else 0) + (if r.hasLine then 4 else 0) := by
  obtain ⟨first, time, hasLease, hasRequest, hasLine⟩ := r
  cases hasLease <;> cases hasRequest <;> cases hasLine <;> rfl

theorem profileField_toNat (p : ProfileNo) : (profileField (some p)).toNat = p.val := by
  simp only [profileField, oneByte, BitVec.toNat_ofNat]; omega

/-- The content of STATUS, in the words of the statement. -/
theorem statusContent_received (f : Frame) : statusContent (s.received f) =
    [s.session.state.code] ++ leBytes 2 s.session.number.toNat ++ leBytes 2 s.session.lease
      ++ leBytes 4 (match (s.received f).session.deadline with
          | some d => d - s.now
          | none => 0)
      ++ (match s.session.record with
          | some r => [(1 : Byte), r.first.code, r.causeByte] ++ timeBytes r.time
          | none => List.replicate 9 (0 : Byte))
      ++ [if s.session.safeN.asserted then (1 : Byte) else 0] ++ timeBytes s.now
      ++ [oneByte s.schedule.entries.length, oneByte s.schedule.outcomes.length]
      ++ leBytes 2 s.journal.records.length
      ++ leBytes 4 (match s.journal.records with
          | r :: _ => r.seq.toNat
          | [] => s.journal.nextSeq.toNat)
      ++ [oneByte s.link.notices.length] ++ leBytes 2 s.link.lost ++ leBytes 2 s.link.crcErrors
      ++ leBytes 2 s.link.framingErrors ++ leBytes 2 s.link.overruns
      ++ [s.store.operation.code, profileField s.store.operation.slot]
      ++ (match s.store.lastResult with
          | some r => [(1 : Byte), r.op.code, profileField r.slot, r.result.code] ++ timeBytes r.time
          | none => List.replicate 10 (0 : Byte)) := by
  have hlink : (s.received f).link.lost = s.link.lost ∧
      (s.received f).link.crcErrors = s.link.crcErrors ∧
      (s.received f).link.framingErrors = s.link.framingErrors ∧
      (s.received f).link.overruns = s.link.overruns := by
    unfold State.received; split <;> exact ⟨rfl, rfl, rfl, rfl⟩
  obtain ⟨hlost, hcrc, hframing, hoverruns⟩ := hlink
  have hold : s.journal.oldest.toNat = match s.journal.records with
      | r :: _ => r.seq.toNat
      | [] => s.journal.nextSeq.toNat := by
    unfold Journal.oldest; cases s.journal.records <;> rfl
  simp only [statusContent, State.remainingLease, State.received_state, State.received_number,
    State.received_lease, State.received_record, State.received_safeN, State.received_now,
    State.received_schedule, State.received_journal, State.received_notices, State.received_store,
    hlost, hcrc, hframing, hoverruns, hold, Journal.held]
  cases s.session.record <;> cases s.store.lastResult <;> rfl

/-- Settles O18: the codes by their tables, the replies by their contents. -/
theorem identifyAndStatusReplies : Obligations.IdentifyAndStatusReplies := by
  refine ⟨⟨rfl, rfl, FailsafeRecord.causeByte_toNat, rfl, rfl, rfl, rfl, rfl, profileField_toNat,
    fun _ _ _ _ _ _ _ => rfl⟩, fun s seq hpass => ?identify, fun s seq hpass => ?status⟩
  case identify =>
    refine (exec_read (own := answerIdentify) rfl hpass rfl).trans ?_
    simp only [identifyContent, State.received_store, State.received_resetCause, State.received_now]
    rfl
  case status =>
    exact (exec_read (own := answerStatus) rfl hpass rfl).trans (by rw [statusContent_received]; rfl)

/-! #### OPEN and RENEW -/

theorem leaseInRange_iff {ms : Nat} : leaseInRange ms = true ↔ ms = 0 ∨ (10 ≤ ms ∧ ms ≤ 60000) := by
  simp [leaseInRange]

/-- A field that is the whole rest of a body. -/
theorem field_rest {before rest : List Byte} {offset width : Nat} (hb : before.length = offset)
    (hr : rest.length = width) : field (before ++ rest) offset width = leNat rest := by
  simp [field, slice, ← hb, ← hr]

theorem parseLease_eq {body : List Byte} (h : body.length = 2) :
    parseLease body = if leaseInRange (leNat body) then some (leNat body) else none := by
  have hfield : field body 0 2 = leNat body := field_rest (before := []) rfl h
  rw [parseLease, hfield]

theorem State.beginSession_received (f : Frame) (ms : Nat) :
    ((s.received f).beginSession ms).session = { s.session with
      state := .active, number := s.session.number + 1, lease := ms
      deadline := if ms = 0 then none else some (s.now + ms * 1000)
      warning := if ms < 100 then none else some (s.now + ms * 750) } := by
  unfold State.beginSession Session.begin Session.startLease State.received Session.renewedAt
  split
  · rfl
  · dsimp only; split <;> rfl

theorem State.renew_received (f : Frame) (lease : Option Nat) :
    ((s.received f).renew lease).session = { s.session with
      lease := lease.getD s.session.lease
      deadline := if lease.getD s.session.lease = 0 then none
        else some (s.now + lease.getD s.session.lease * 1000)
      warning := if lease.getD s.session.lease < 100 then none
        else some (s.now + lease.getD s.session.lease * 750) } := by
  unfold State.renew Session.renew Session.startLease State.received Session.renewedAt
  split
  · rfl
  · dsimp only; split <;> rfl

/-- OPEN that passes, with a lease in range: a session begins. -/
theorem exec_openSession {seq : Byte} {body : List Byte}
    (h : s.passes (.openSession seq body) ⟨seq, 0x08, body⟩) (hms : leaseInRange (leNat body) = true) :
    exec (.openSession seq body) s = .next
      { s.serving ⟨seq, 0x08, body⟩ 0x00
          (leBytes 2 (s.session.number + 1).toNat ++ leBytes 2 (leNat body)) with
        session := ((s.received ⟨seq, 0x08, body⟩).beginSession (leNat body)).session } := by
  have hlen : body.length = 2 := of_decide_eq_true (passes_length h)
  have hanswer : answerOpen body (s.received ⟨seq, 0x08, body⟩) = .done .ok
      (leBytes 2 (s.session.number + 1).toNat ++ leBytes 2 (leNat body))
      ((s.received ⟨seq, 0x08, body⟩).beginSession (leNat body)) := by
    rw [answerOpen, parseLease_eq hlen, if_pos hms, withOperands, sessionContent,
      State.beginSession_received]
  exact exec_done (own := answerOpen) rfl h hanswer rfl (State.received_now ..)

/-- The content that RENEW replies, the new lease and the time that is left of it. -/
theorem renew_content (f : Frame) (lease : Option Nat) :
    leBytes 2 ((s.received f).renew lease).session.lease ++
        leBytes 4 ((s.received f).renew lease).remainingLease =
      leBytes 2 (lease.getD s.session.lease) ++ leBytes 4 (lease.getD s.session.lease * 1000) := by
  have hnow : ((s.received f).renew lease).now = s.now := State.received_now s f
  rw [State.remainingLease, hnow, State.renew_received]
  dsimp only
  split_ifs with h
  · simp [h]
  · dsimp only; rw [Nat.add_sub_cancel_left]

/-- RENEW that passes, with its layout in order: the timer restarts. -/
theorem exec_renew {seq : Byte} {body : List Byte} {lease : Option Nat}
    (h : s.passes (.renew seq body) ⟨seq, 0x09, body⟩) (hparse : parseRenew body = some lease) :
    exec (.renew seq body) s = .next
      { s.serving ⟨seq, 0x09, body⟩ 0x00
          (leBytes 2 (lease.getD s.session.lease) ++ leBytes 4 (lease.getD s.session.lease * 1000)) with
        session := ((s.received ⟨seq, 0x09, body⟩).renew lease).session } := by
  have hanswer : answerRenew body (s.received ⟨seq, 0x09, body⟩) = .done .ok
      (leBytes 2 (lease.getD s.session.lease) ++ leBytes 4 (lease.getD s.session.lease * 1000))
      ((s.received ⟨seq, 0x09, body⟩).renew lease) := by
    rw [answerRenew, hparse, withOperands, renew_content]
  exact exec_done (own := answerRenew) rfl h hanswer rfl (State.received_now ..)

theorem leNat_two (a b : Byte) : leNat [a, b] = a.toNat + 256 * b.toNat := by simp [leNat]

/-- The operands of RENEW by its flag. -/
theorem parseRenew_carried {a b : Byte} : parseRenew [1, a, b] =
    if leaseInRange (leNat [a, b]) then some (some (leNat [a, b])) else none := rfl

theorem parseRenew_absent {a b : Byte} : parseRenew [0, a, b] =
    if leNat [a, b] = 0 then some none else none := by
  have hzero : zeroAt [0, a, b] 1 2 = true ↔ leNat [a, b] = 0 := by
    have ha : a = 0 ↔ a.toNat = 0 := by rw [← BitVec.toNat_inj]; rfl
    have hb : b = 0 ↔ b.toNat = 0 := by rw [← BitVec.toNat_inj]; rfl
    rw [leNat_two, Nat.add_eq_zero_iff, Nat.mul_eq_zero, or_iff_right (by decide), ← ha, ← hb]
    simp [zeroAt, slice]
  show (if zeroAt [0, a, b] 1 2 then some none else none) = _
  simp only [hzero]

theorem flagOf?_none {n : Nat} (h : 1 < n) : flagOf? n = none := by
  match n, h with
  | n + 2, _ => rfl

/-- Settles O19, by the lease that is carried and its range. -/
theorem openAndRenewSession : Obligations.OpenAndRenewSession := by
  refine ⟨?_, ?_⟩
  · rintro s seq body ms hpass rfl
    refine ⟨fun hms => ?_, fun hms => ?_⟩
    · rw [exec_openSession hpass (leaseInRange_iff.mpr hms), State.beginSession_received]
    · refine exec_refused (own := answerOpen) (st := .badValue) rfl hpass ?_
      have hlen : body.length = 2 := of_decide_eq_true (passes_length hpass)
      rw [answerOpen, parseLease_eq hlen, if_neg (mt leaseInRange_iff.mp hms), withOperands]
  · intro s seq carried leaseBytes ms hpass
    obtain ⟨a, b, rfl⟩ : ∃ a b, leaseBytes = [a, b] :=
      List.length_eq_two.mp (Nat.succ.inj (of_decide_eq_true (passes_length hpass)))
    refine ⟨?_, ?_⟩
    · rintro hms (⟨rfl, hrange⟩ | ⟨rfl, hzero⟩)
      · obtain rfl : ms = leNat [a, b] := hms
        have hparse := parseRenew_carried (a := a) (b := b)
        rw [if_pos (leaseInRange_iff.mpr hrange)] at hparse
        rw [exec_renew hpass hparse, State.renew_received]
        rfl
      · obtain rfl : ms = s.session.lease := hms
        have hparse := parseRenew_absent (a := a) (b := b)
        rw [if_pos hzero] at hparse
        rw [exec_renew hpass hparse, State.renew_received]
        rfl
    · intro hbad
      have hparse : parseRenew [carried, a, b] = none := by
        rcases hbad with h | ⟨rfl, h⟩ | ⟨rfl, h⟩
        · unfold parseRenew
          rw [show flagOf? (byteAt [carried, a, b] 0) = none from flagOf?_none h]
        · rw [parseRenew_absent, if_neg h]
        · rw [parseRenew_carried, if_neg (mt leaseInRange_iff.mp h)]
      refine exec_refused (own := answerRenew) (st := .badValue) rfl hpass ?_
      rw [answerRenew, hparse, withOperands]

/-! #### CLOSE -/

/-- A CLOSE taken at once, before what mode CLEAR does further. -/
theorem State.closeSession_received (f : Frame) : (s.received f).closeSession = { s.received f with
    session := { s.session with state := .noSession, deadline := none, warning := none }
    store := { s.store with staging := s.store.staging.discard }
    link := { (s.received f).link with notices := [], inFlight := ⟨0, false, none⟩, lossMark := false } } := by
  have hsession : { (s.received f).session with state := .noSession, deadline := none, warning := none } =
      { s.session with state := .noSession, deadline := none, warning := none } :=
    congrArg ({ · with state := SessionState.noSession }) (s.received_session_timer f none none)
  unfold State.closeSession State.discardStaging
  dsimp only
  rw [hsession, State.received_store]
  rfl

/-- The part after a CLOSE in mode KEEP, as the state that the Session Monitor leaves with its reply on TXD. -/
theorem State.closedKeeping_eq (f : Frame) :
    s.closedKeeping f = (s.received f).closeSession.withLink
      ((s.received f).closeSession.link.sending f
        ⟨f.seq, f.kind ||| 0x80, 0x00 :: leBytes 2 s.session.number.toNat⟩ s.now) := by
  rw [State.closeSession_received]
  rfl

/-- A CLOSE that passes, by the state that its mode leaves. -/
theorem exec_close {seq mode : Byte} {clear : Bool} (h : s.passes (.close seq [mode]) ⟨seq, 0x0A, [mode]⟩)
    (hmode : flagOf? mode.toNat = some clear)
    (ht : t = if clear then (s.received ⟨seq, 0x0A, [mode]⟩).closeSession.clearAll
      else (s.received ⟨seq, 0x0A, [mode]⟩).closeSession)
    (hl : t.link = (s.received ⟨seq, 0x0A, [mode]⟩).closeSession.link) (hn : t.now = s.now) :
    exec (.close seq [mode]) s = .next (t.withLink (t.link.sending ⟨seq, 0x0A, [mode]⟩
      ⟨seq, 0x0A ||| 0x80, 0x00 :: leBytes 2 s.session.number.toNat⟩ s.now)) := by
  have hanswer : answerClose [mode] (s.received ⟨seq, 0x0A, [mode]⟩) =
      .done .ok (leBytes 2 s.session.number.toNat) t := by
    have hbyte : flagOf? (byteAt [mode] 0) = some clear := hmode
    rw [answerClose, hbyte, withOperands, State.received_number, ht]
  obtain ⟨htx, hd, hr⟩ := passes_received h
  rw [exec_answered (own := answerClose) rfl h hanswer, State.answered_idle, hn]
  · rfl
  all_goals rw [hl, State.closeSession_received]
  · exact htx
  · exact hr

/-- What mode CLEAR does further, as one whole next state (R25, R84, R128). -/
theorem State.clearAll_whole (h : s.session.state = .noSession) (hout : s.schedule.outcomes.length ≤ 16) :
    s.clearAll = { s with
      lines := Vector.ofFn fun i =>
        { s.lines[i] with
          claims := { s.lines[i].claims with pin := none, trigger := none, schedule := none }
          refs := s.lines[i].refs - s.schedule.entries.countP (·.action.names i) }
      schedule := { s.schedule with
        entries := []
        outcomes := lastSixteen (s.schedule.outcomes ++
          (scheduleOrder s.schedule.entries).map fun e =>
            ⟨e.action.id, .cancelled .close, s.now, e.applied, e.skipped⟩) }
      slots := Vector.ofFn fun k => { s.slots[k] with phase := .idle } } := by
  rw [State.clearAll_eq s h, State.outcomesAfterAll_eq hout]
  simp [State.standDownAll, Slot.standDown, State.dropAllClaims, State.mapLines, Line.drop, ClaimSet.set]

@[simp] theorem State.closeSession_lines : s.closeSession.lines = s.lines := rfl
@[simp] theorem State.closeSession_schedule : s.closeSession.schedule = s.schedule := rfl
@[simp] theorem State.closeSession_slots : s.closeSession.slots = s.slots := rfl
@[simp] theorem State.closeSession_now : s.closeSession.now = s.now := rfl

/-- A CLOSE in mode CLEAR, by what it changes beside mode KEEP. -/
theorem exec_close_clear {seq : Byte} {lines : Vector Line 40} {schedule : Schedule}
    {slots : Vector Slot 16} (h : s.passes (.close seq [1]) ⟨seq, 0x0A, [1]⟩)
    (hclear : (s.received ⟨seq, 0x0A, [1]⟩).closeSession.clearAll =
      { (s.received ⟨seq, 0x0A, [1]⟩).closeSession with
        lines := lines, schedule := schedule, slots := slots }) :
    exec (.close seq [1]) s = .next { s.closedKeeping ⟨seq, 0x0A, [1]⟩ with
      lines := lines, schedule := schedule, slots := slots } := by
  rw [exec_close (clear := true) h rfl hclear.symm rfl (State.received_now ..), State.closedKeeping_eq]
  rfl

/-- Settles O20, by the mode. -/
theorem closeSession : Obligations.CloseSession := by
  refine ⟨fun _ _ => rfl, fun s seq mode hpass => ⟨?keep, ?clear, fun hbad => ?refused⟩⟩
  case keep =>
    rintro rfl
    rw [exec_close (clear := false) hpass rfl rfl rfl (State.received_now ..), State.closedKeeping_eq]
    rfl
  case clear =>
    rintro rfl hout
    rw [exec_close_clear hpass (State.clearAll_whole rfl (by simpa using hout))]
    simp only [State.closeSession_lines, State.closeSession_schedule, State.closeSession_slots,
      State.closeSession_now, State.received_lines, State.received_schedule, State.received_slots,
      State.received_now]
  case refused =>
    refine exec_refused (own := answerClose) (st := .badValue) rfl hpass ?_
    have hflag : flagOf? (byteAt [mode] 0) = none := flagOf?_none hbad
    rw [answerClose, hflag, withOperands]

/-! #### FAILSAFE NOW and RECOVER -/

/-- Settles O21, by what a failsafe entry leaves. -/
theorem failsafeNow : Obligations.FailsafeNow := by
  intro s seq hpass hout
  obtain ⟨link, hlink, heq⟩ := State.enterFailsafe_entered (s := s.received ⟨seq, 0x0B, []⟩)
    (by rwa [State.received_schedule]) .request
  refine ⟨link, hlink, ?_⟩
  have hanswer : answerFailsafeNow [] (s.received ⟨seq, 0x0B, []⟩) = .done .ok (timeBytes s.now)
      { (s.received ⟨seq, 0x0B, []⟩).enteredFailsafe .request with link := link } := by
    rw [answerFailsafeNow, heq, State.received_now]
  exact exec_answered (own := answerFailsafeNow) rfl hpass hanswer

/-- RECOVER changes the lines and the session alone (R24, R146). -/
theorem State.recover_eq (s : State) (ms : Nat) : s.recover ms = { s with
    lines := Vector.ofFn fun i =>
      { s.lines[i] with claims := { s.lines[i].claims with failsafe := none } }
    session := (s.beginSession ms).session } := by
  simp [State.recover, State.dropFailsafeClaims, State.mapLines, State.beginSession, Line.drop,
    ClaimSet.set]

/-- RECOVER that passes, with its lease in range and SAFE_N not asserted. -/
theorem exec_recover {seq : Byte} {body : List Byte} {content : List Byte}
    {lines : Vector Line 40} {session : Session}
    (h : s.passes (.recover seq body) ⟨seq, 0x0C, body⟩)
    (hanswer : answerRecover body (s.received ⟨seq, 0x0C, body⟩) = .done .ok content
      { s.received ⟨seq, 0x0C, body⟩ with lines := lines, session := session }) :
    exec (.recover seq body) s = .next { s.serving ⟨seq, 0x0C, body⟩ 0x00 content with
      session := session, lines := lines } := by
  rw [exec_done (own := answerRecover) rfl h hanswer rfl (State.received_now ..)]
  rfl

/-- Settles O22, by the lease and the level of SAFE_N. -/
theorem recoverSession : Obligations.RecoverSession := by
  rintro s seq body ms hpass rfl
  have hlen : body.length = 2 := of_decide_eq_true (passes_length hpass)
  have hparse := parseLease_eq hlen
  refine ⟨fun hms => ?_, fun hms => ⟨fun hsafe => ?_, fun hsafe => ?_⟩⟩
  · rw [if_neg (mt leaseInRange_iff.mp hms)] at hparse
    refine exec_refused (own := answerRecover) (st := .badValue) rfl hpass ?_
    rw [answerRecover, hparse, withOperands]
  all_goals rw [if_pos (leaseInRange_iff.mpr hms)] at hparse
  · refine exec_refused (own := answerRecover) (st := .safeAsserted) rfl hpass ?_
    rw [answerRecover, hparse, withOperands, State.received_safeN, if_pos hsafe]
  · refine exec_recover hpass ?_
    rw [answerRecover, hparse, withOperands, State.received_safeN, if_neg (by simp [hsafe]),
      sessionContent, State.recover_eq, State.beginSession_received, State.received_lines]

end Sys2Proof.Machine
end


/-! ### Requests of the lines (R12 to R22, R33) -/

section
set_option Elab.async false
namespace Sys2Proof.Machine

variable {s : State}

/-! #### Line requests as changes of the lines -/

theorem State.mapLines_eq {f : LineNo → Line → Line} {g : LineNo → Line}
    (h : ∀ i : LineNo, f i s.lines[i] = g i) : s.mapLines f = { s with lines := Vector.ofFn g } := by
  rw [State.mapLines, funext h]

/-- A line request that is taken: the lines it leaves, and nothing else changed. -/
theorem exec_lines {c : Instr} {f : Frame} {own : List Byte → State → Answer} {content : List Byte}
    {lines : Vector Line 40} (hexec : exec c s = .next (s.serve f own)) (h : s.passes c f)
    (ho : own f.body (s.received f) = .done .ok content { s.received f with lines := lines }) :
    exec c s = .next { s.serving f 0x00 content with lines := lines } := by
  rw [exec_done hexec h ho rfl (State.received_now ..)]
  rfl

section
variable {α : Type} {lineOf : α → LineNo} {xs : List α} {x : α} {own : Answer}

/-- The first listed line that is no output line refuses a request on output lines. -/
theorem onOutputs_bad (h : xs.find? (fun x => !s.lines[lineOf x].isOutput) = some x) :
    onOutputs s (xs.map lineOf) own = .refuse .badTarget [oneByte (lineOf x).val] := by
  have hfirst : s.firstNotOutput (xs.map lineOf) = some (lineOf x) := by
    rw [State.firstNotOutput, List.find?_map]
    exact congrArg (Option.map lineOf) h
  rw [onOutputs, hfirst]
  rfl

theorem onOutputs_good (h : ∀ x ∈ xs, s.lines[lineOf x].isOutput = true) :
    onOutputs s (xs.map lineOf) own = own := by
  have hfirst : s.firstNotOutput (xs.map lineOf) = none := by
    rw [State.firstNotOutput, List.find?_map, Option.map_eq_none_iff, List.find?_eq_none]
    simpa using h
  rw [onOutputs, hfirst]

/-- The item found for a line names an output line, when every item does. -/
theorem isOutput_of_find? {i : LineNo} (h : ∀ x ∈ xs, s.lines[lineOf x].isOutput = true)
    (hx : xs.find? (fun x => decide (lineOf x = i)) = some x) : s.lines[i].isOutput = true := by
  have hline : lineOf x = i := by simpa using List.find?_some hx
  exact hline ▸ h x (List.mem_of_find?_eq_some hx)

end

/-! #### CONFIGURE LINES -/

theorem Line.inUseFor_eq (l : Line) (c : LineConfig) : l.inUseFor c = l.blocks c := by
  simp only [Line.inUseFor, Line.blocks, Line.claimedAboveBase, Bool.or_assoc]

theorem State.firstInUse_eq (s : State) (xs : List LineSetting) :
    s.firstInUse xs = xs.find? fun x => s.lines[x.line].blocks x.config := by
  simp only [State.firstInUse, Line.inUseFor_eq]

/-- Settles O23, by the first listed line in use. -/
theorem configureLines : Obligations.ConfigureLines := by
  refine ⟨fun drive => ⟨rfl, rfl, by cases drive <;> rfl⟩, fun s seq body hpass =>
    ⟨fun hparse => ?bad, fun xs hparse => ⟨fun x hx => ?inUse, fun hfree => ?taken⟩⟩⟩
  case bad =>
    refine exec_refused (own := answerConfigureLines) (st := .badValue) rfl hpass ?_
    rw [answerConfigureLines, hparse, withOperands]
  case inUse =>
    refine exec_refused (own := answerConfigureLines) (st := .lineInUse) rfl hpass ?_
    have hfirst : (s.received ⟨seq, 0x10, body⟩).firstInUse xs = some x := by
      rw [State.firstInUse_eq, State.received_lines, hx]
    rw [answerConfigureLines, hparse, withOperands, hfirst]
    rfl
  case taken =>
    refine exec_lines (own := answerConfigureLines) rfl hpass ?_
    have hnone : (s.received ⟨seq, 0x10, body⟩).firstInUse xs = none := by
      rw [State.firstInUse_eq, State.received_lines, List.find?_eq_none]
      simpa using hfree
    rw [answerConfigureLines, hparse, withOperands, hnone]
    refine congrArg (Answer.done .ok []) (State.mapLines_eq fun i => ?_)
    rw [State.received_lines]
    cases xs.find? fun x => decide (x.line = i) with
    | none => rfl
    | some x => exact Line.configure_eq ..

/-! #### SET BASE and SET FAILSAFE -/

/-- Settles O24, by the first listed line that is no output line. -/
theorem setBaseAndFailsafe : Obligations.SetBaseAndFailsafe := by
  refine ⟨fun s seq body hpass => ⟨fun hparse => ?badBase, fun xs hparse => ⟨fun x hx => ?noOutputBase,
    fun hout => ?setBase⟩⟩, fun s seq body hpass => ⟨fun hparse => ?badSpec,
    fun xs hparse => ⟨fun x hx => ?noOutputSpec, fun hout => ?setSpec⟩⟩⟩
  case badBase =>
    refine exec_refused (own := answerSetBase) (st := .badValue) rfl hpass ?_
    rw [answerSetBase, hparse, withOperands]
  case noOutputBase =>
    refine exec_refused (own := answerSetBase) (st := .badTarget) rfl hpass ?_
    rw [answerSetBase, hparse, withOperands, onOutputs_bad (by rwa [State.received_lines])]
  case setBase =>
    refine exec_lines (own := answerSetBase) rfl hpass ?_
    rw [answerSetBase, hparse, withOperands, onOutputs_good (by rwa [State.received_lines])]
    refine congrArg (Answer.done .ok []) (State.mapLines_eq fun i => ?_)
    rw [State.received_lines]
    cases hx : xs.find? fun x => decide (x.line = i) with
    | none => rfl
    | some x =>
      simp only [Line.setBase, isOutput_of_find? hout hx, if_true]
      rfl
  case badSpec =>
    refine exec_refused (own := answerSetFailsafe) (st := .badValue) rfl hpass ?_
    rw [answerSetFailsafe, hparse, withOperands]
  case noOutputSpec =>
    refine exec_refused (own := answerSetFailsafe) (st := .badTarget) rfl hpass ?_
    rw [answerSetFailsafe, hparse, withOperands, onOutputs_bad (by rwa [State.received_lines])]
  case setSpec =>
    refine exec_lines (own := answerSetFailsafe) rfl hpass ?_
    rw [answerSetFailsafe, hparse, withOperands, onOutputs_good (by rwa [State.received_lines])]
    refine congrArg (Answer.done .ok []) (State.mapLines_eq fun i => ?_)
    rw [State.received_lines]
    cases xs.find? fun x => decide (x.line = i) with
    | none => rfl
    | some x => rfl

/-! #### PIN LINES and UNPIN LINES -/

theorem distinctLines_iff {is : List LineNo} : distinctLines is = true ↔ is.Nodup := by
  induction is with
  | nil => simp [distinctLines]
  | cons i is ih => simp [distinctLines, ih]

/-- What a list of items with a count byte is read as. -/
theorem parseLineList_some {α : Type} {item : Nat} {parse : List Byte → Option α} {lineOf : α → LineNo}
    {body : List Byte} {xs : List α} : parseLineList item parse lineOf body = some xs ↔
      (1 ≤ byteAt body 0 ∧ byteAt body 0 ≤ 8) ∧
        allSome parse (chunks item (byteAt body 0) (body.drop 1)) = some xs ∧ (xs.map lineOf).Nodup := by
  unfold parseLineList
  dsimp only
  split_ifs with hcount
  · cases hall : allSome parse (chunks item (byteAt body 0) (body.drop 1)) with
    | none => simp
    | some ys =>
      simp only [hcount, and_self, true_and, Option.some.injEq, Option.ite_none_right_eq_some,
        distinctLines_iff]
      exact ⟨fun ⟨hd, h⟩ => ⟨h, h ▸ hd⟩, fun ⟨h, hd⟩ => ⟨h ▸ hd, h⟩⟩
  · simp [hcount]

theorem parseUnpinLines_list {body : List Byte} {is : List LineNo} :
    parseUnpinLines body = some (.list is) ↔ byteAt body 0 = 0 ∧
      parseLineList 1 (fun b => lineOf? (byteAt b 0)) id (body.drop 1) = some is := by
  unfold parseUnpinLines
  split
  · next h => cases parseLineList 1 (fun b => lineOf? (byteAt b 0)) id (body.drop 1) <;> simp [h]
  · next h => simp [h]
  · next h _ => exact iff_of_false nofun fun hlist => h hlist.1

/-- Lines counted among all 40 by a list without repetition. -/
theorem countP_contains {is : List LineNo} (h : is.Nodup) (p : LineNo → Bool) :
    (List.finRange 40).countP (fun i => is.contains i && p i) = is.countP p := by
  have hperm : ((List.finRange 40).filter is.contains).Perm is :=
    (List.perm_ext_iff_of_nodup ((List.nodup_finRange 40).filter _) h).mpr fun i => by simp
  rw [← hperm.countP_eq p, List.countP_filter]
  simp only [Bool.and_comm]

/-- Settles O25, by the first listed line that is no output line, and for UNPIN LINES by its form. -/
theorem pinAndUnpinLines : Obligations.PinAndUnpinLines := by
  refine ⟨fun s seq body hpass => ⟨fun hparse => ?badPin, fun xs hparse => ⟨fun x hx => ?noOutputPin,
    fun hout => ?pin⟩⟩, fun s seq body hpass => ⟨fun hparse => ?badUnpin,
    fun is hparse => ⟨fun i hi => ?noOutputUnpin, fun hout => ?unpin⟩, fun hparse => ?unpinAll⟩⟩
  case badPin =>
    refine exec_refused (own := answerPinLines) (st := .badValue) rfl hpass ?_
    rw [answerPinLines, hparse, withOperands]
  case noOutputPin =>
    refine exec_refused (own := answerPinLines) (st := .badTarget) rfl hpass ?_
    rw [answerPinLines, hparse, withOperands, onOutputs_bad (by rwa [State.received_lines])]
  case pin =>
    refine exec_lines (own := answerPinLines) rfl hpass ?_
    rw [answerPinLines, hparse, withOperands, onOutputs_good (by rwa [State.received_lines]),
      State.received_now]
    refine congrArg (Answer.done .ok _) (State.mapLines_eq fun i => ?_)
    rw [State.received_lines, State.received_now]
    cases hx : xs.find? fun x => decide (x.line = i) with
    | none => rfl
    | some x =>
      simp only [Line.place, isOutput_of_find? hout hx, if_true]
      rfl
  case badUnpin =>
    refine exec_refused (own := answerUnpinLines) (st := .badValue) rfl hpass ?_
    rw [answerUnpinLines, hparse, withOperands]
  case noOutputUnpin =>
    refine exec_refused (own := answerUnpinLines) (st := .badTarget) rfl hpass ?_
    have hbad := onOutputs_bad (s := s.received ⟨seq, 0x14, body⟩) (lineOf := id) (xs := is) (x := i)
      (own := .done .ok [oneByte ((s.received ⟨seq, 0x14, body⟩).countPins (UnpinForm.list is).picks)]
        ((s.received ⟨seq, 0x14, body⟩).unpin (UnpinForm.list is).picks)) (by rwa [State.received_lines])
    rw [List.map_id] at hbad
    rw [answerUnpinLines, hparse, withOperands]
    exact hbad
  case unpin =>
    obtain ⟨-, hlist⟩ := parseUnpinLines_list.mp hparse
    obtain ⟨-, -, hnodup⟩ := parseLineList_some.mp hlist
    have hcount := countP_contains (by simpa using hnodup) fun i => s.lines[i].claims.pin.isSome
    have hgood := onOutputs_good (s := s.received ⟨seq, 0x14, body⟩) (lineOf := id) (xs := is)
      (own := .done .ok [oneByte ((s.received ⟨seq, 0x14, body⟩).countPins (UnpinForm.list is).picks)]
        ((s.received ⟨seq, 0x14, body⟩).unpin (UnpinForm.list is).picks)) (by rwa [State.received_lines])
    rw [List.map_id] at hgood
    refine exec_lines (own := answerUnpinLines) rfl hpass ?_
    rw [answerUnpinLines, hparse, withOperands]
    refine hgood.trans ?_
    rw [← hcount, State.countPins, State.received_lines]
    refine congrArg (Answer.done .ok _) (State.mapLines_eq fun i => ?_)
    rw [State.received_lines]
    by_cases hi : i ∈ is
    · rw [if_pos hi]; exact if_pos (List.contains_iff_mem.mpr hi)
    · rw [if_neg hi]; exact if_neg (mt List.contains_iff_mem.mp hi)
  case unpinAll =>
    refine exec_lines (own := answerUnpinLines) rfl hpass ?_
    rw [answerUnpinLines, hparse, withOperands]
    have hcount : (s.received ⟨seq, 0x14, body⟩).countPins UnpinForm.all.picks =
        (List.finRange 40).countP fun i => s.lines[i].claims.pin.isSome := by
      simp only [State.countPins, UnpinForm.picks, Bool.true_and, State.received_lines]
    rw [hcount]
    refine congrArg (Answer.done .ok _) (State.mapLines_eq fun i => ?_)
    rw [State.received_lines]
    rfl

/-! #### READ LEVELS and READ LINE -/

/-- The bits of a level set, by the eight levels. -/
theorem levelByte_getLsbD (level : Fin 8 → Level) (k : Fin 8) :
    (levelByte level).getLsbD k.val = decide (level k = .high) := by
  have hbits : ∀ (b0 b1 b2 b3 b4 b5 b6 b7 : Bool) (k : Fin 8),
      (oneByte ((if b0 then 1 else 0) + ((if b1 then 2 else 0) + ((if b2 then 4 else 0) +
        ((if b3 then 8 else 0) + ((if b4 then 16 else 0) + ((if b5 then 32 else 0) +
        ((if b6 then 64 else 0) + ((if b7 then 128 else 0) + 0))))))))).getLsbD k.val =
        [b0, b1, b2, b3, b4, b5, b6, b7][k] := by decide
  have hlevel := hbits (level 0 = .high) (level 1 = .high) (level 2 = .high) (level 3 = .high)
    (level 4 = .high) (level 5 = .high) (level 6 = .high) (level 7 = .high) k
  simp only [decide_eq_true_eq] at hlevel
  refine hlevel.trans ?_
  match k with
  | 0 | 1 | 2 | 3 | 4 | 5 | 6 | 7 => rfl

/-- The bit of a line in the five level sets of the banks. -/
theorem bankBytes_getLsbD (s : State) (level : Line → Level) (i : LineNo) :
    ((bankBytes s level).getD (i.val / 8) 0).getLsbD (i.val % 8) =
      decide (level s.lines[i] = .high) := by
  have hbank : i.val / 8 < 5 := by omega
  have hbyte : (bankBytes s level).getD (i.val / 8) 0 = bankByte s level ⟨i.val / 8, hbank⟩ := by
    rw [List.getD_eq_getElem?_getD, bankBytes, List.getElem?_map, List.getElem?_eq_getElem (by simpa using hbank)]
    simp
  have hline : 8 * (i.val / 8) + i.val % 8 = i.val := Nat.div_add_mod ..
  rw [hbyte, bankByte]
  refine (levelByte_getLsbD _ ⟨i.val % 8, Nat.mod_lt _ (by decide)⟩).trans ?_
  simp only [hline, Fin.getElem_fin]

theorem bankBytes_received (s : State) (f : Frame) (level : Line → Level) :
    bankBytes (s.received f) level = bankBytes s level :=
  List.map_congr_left fun bank _ => by simp only [bankByte, State.received_lines]

theorem bankBytes_length (s : State) (level : Line → Level) : (bankBytes s level).length = 5 := by
  simp [bankBytes]

/-- A number below 256 in two bytes. -/
theorem leBytes_two_of_lt {n : Nat} (h : n < 256) : leBytes 2 n = [oneByte n, 0] := by
  simp [leBytes, oneByte, Nat.div_eq_of_lt h]

theorem Line.reportedEffective_high (l : Line) :
    l.reportedEffective = .high ↔ l.effective = some .high := by
  unfold Line.reportedEffective
  cases l.effective <;> simp

/-- Settles O26: the codes by their tables, the levels by the modes, and the replies by their contents. -/
theorem readLines : Obligations.ReadLines := by
  refine ⟨⟨rfl, rfl, rfl, rfl, rfl, fun id k => ?origins, rfl, fun _ => rfl⟩, fun c => ?ranked,
    fun l => ⟨⟨rfl, rfl⟩, fun hm => ?park, fun level hm he => ?drive, fun f hm hf => ?sensed⟩,
    fun s seq hpass => ?levels, fun s seq number hpass => ⟨fun i hi => ?line, fun hbad => ?refused⟩⟩
  case origins =>
    have hslot : Origin.bytes (.slot k) = [oneByte k.val, 0] := leBytes_two_of_lt (by omega)
    rw [List.map_cons, List.map_cons, List.map_cons, hslot]
    rfl
  case ranked => rfl
  case park => simp only [Line.sensedLevel, hm]
  case drive => simp only [Line.sensedLevel, hm, Line.reportedEffective, he, Option.getD_some]
  case sensed => rcases hm with hm | hm <;> simp only [Line.sensedLevel, hm, hf, Option.map_some, Option.getD_some]
  case levels =>
    refine ⟨_, exec_read (own := answerReadLevels) rfl hpass rfl, ?_⟩
    have hcontent : readLevelsContent (s.received ⟨seq, 0x15, []⟩) = readLevelsContent s := by
      simp only [readLevelsContent, bankBytes_received, State.received_now]
    have hlength := timeBytes_length s.now
    have hsensed := bankBytes_length s Line.sensedLevel
    have heffective := bankBytes_length s Line.reportedEffective
    rw [hcontent, readLevelsContent, List.append_assoc]
    refine ⟨by simp [hlength, hsensed, heffective], List.take_left' hlength, fun i => ?_, fun i => ?_⟩
    · rw [← bankBytes_getLsbD, List.getD_append_right _ _ _ _ (by omega), hlength,
        Nat.add_sub_cancel_left, List.getD_append _ _ _ _ (by omega)]
    · rw [← decide_eq_decide.mpr (Line.reportedEffective_high _),  ← bankBytes_getLsbD,
        List.getD_append_right _ _ _ _ (by omega), List.getD_append_right _ _ _ _ (by omega), hlength,
        hsensed, show 11 + i.val / 8 - 6 - 5 = i.val / 8 by omega]
  case line =>
    have hparse : parseReadLine [number] = some i := by
      have hlt : number.toNat < 40 := hi ▸ i.isLt
      exact (dif_pos hlt).trans (congrArg some (Fin.ext hi.symm))
    have hnumber : oneByte i.val = number := by rw [oneByte, hi, BitVec.ofNat_toNat, BitVec.setWidth_eq]
    refine exec_lines (own := answerReadLine) rfl hpass ?_
    rw [answerReadLine, hparse, withOperands, State.clearGlitches, State.updateLine, State.received_lines,
      readLineContent, hnumber]
    cases s.lines[i].winningClass <;> rfl
  case refused =>
    have hparse : parseReadLine [number] = none := dif_neg (Nat.not_lt.mpr hbad)
    refine exec_refused (own := answerReadLine) (st := .badValue) rfl hpass ?_
    rw [answerReadLine, hparse, withOperands]

end Sys2Proof.Machine
end


/-! ### The journal: its requests, and the edges it takes (R43 to R58) -/

section
set_option Elab.async false
namespace Sys2Proof.Machine

variable {s : State}

/-! #### Runs of records -/

/-- What fits of a run of records: an initial part that the room takes, up to the first that it does not. -/
theorem fitting_map {α : Type} (bytes : α → List Byte) : ∀ (xs : List α) (room : Nat),
    ∃ given rest, xs = given ++ rest ∧ (given.map fun x => (bytes x).length).sum ≤ room ∧
      (∀ x ∈ rest.head?, room < (given.map fun x => (bytes x).length).sum + (bytes x).length) ∧
      fitting room (xs.map bytes) = given.map bytes
  | [], _ => ⟨[], [], rfl, Nat.zero_le _, nofun, rfl⟩
  | x :: xs, room => by
    by_cases hx : (bytes x).length ≤ room
    · obtain ⟨given, rest, hxs, hsum, hover, hfit⟩ := fitting_map bytes xs (room - (bytes x).length)
      refine ⟨x :: given, rest, by rw [hxs, List.cons_append], ?_, fun y hy => ?_, ?_⟩
      · rw [List.map_cons, List.sum_cons]; omega
      · have := hover y hy
        rw [List.map_cons, List.sum_cons]; omega
      · rw [List.map_cons, fitting, if_pos hx, hfit, List.map_cons]
    · refine ⟨[], x :: xs, rfl, Nat.zero_le _, fun y hy => ?_, ?_⟩
      · obtain rfl : x = y := by simpa using hy
        simpa using hx
      · rw [List.map_cons, fitting, if_neg hx]; rfl

/-- The place of a sequence number among the records, the first that carries it. -/
theorem findIdx?_seq {earlier later : List JournalRecord} {r : JournalRecord}
    (h : ∀ x ∈ earlier, x.seq ≠ r.seq) :
    (earlier ++ r :: later).findIdx? (fun x => decide (x.seq = r.seq)) = some earlier.length := by
  have hnone : earlier.findIdx? (fun x => decide (x.seq = r.seq)) = none :=
    List.findIdx?_eq_none_iff.mpr fun x hx => by simpa using h x hx
  simp [List.findIdx?_append, hnone, List.findIdx?_cons]

theorem findIdx?_seq_none {records : List JournalRecord} {q : Serial} (h : ∀ x ∈ records, x.seq ≠ q) :
    records.findIdx? (fun x => decide (x.seq = q)) = none :=
  List.findIdx?_eq_none_iff.mpr fun x hx => by simpa using h x hx

/-! #### Journal requests -/

/-- A journal request that is taken: the journal it leaves, and nothing else changed. -/
theorem exec_journal {c : Instr} {f : Frame} {own : List Byte → State → Answer} {content : List Byte}
    {j : Journal} (hexec : exec c s = .next (s.serve f own)) (h : s.passes c f)
    (ho : own f.body (s.received f) = .done .ok content ((s.received f).withJournal j)) :
    exec c s = .next { s.serving f 0x00 content with journal := j } := by
  rw [exec_done hexec h ho rfl (State.received_now ..)]
  rfl

/-- READ JOURNAL from a run that the journal holds. -/
theorem exec_readJournal {seq : Byte} {body : List Byte} {count : Nat} {start : Option Serial}
    {run : List JournalRecord} (hpass : s.passes (.readJournal seq body) ⟨seq, 0x20, body⟩)
    (hparse : parseReadJournal body = some (count, start)) (hrun : s.journal.run start = some run) :
    exec (.readJournal seq body) s = .next
      { s.serving ⟨seq, 0x20, body⟩ 0x00 (readJournalContent s.journal (run.take count)) with
        journal := { s.journal with armed := true } } := by
  refine exec_journal (own := answerReadJournal) rfl hpass ?_
  rw [answerReadJournal, hparse, withOperands, State.received_journal]
  simp only [hrun, Journal.rearm]

/-- Settles O28, by the start of the run. -/
theorem readJournal : Obligations.ReadJournal := by
  refine ⟨fun _ _ _ _ _ _ _ _ => rfl, fun r => ?bytes, fun s seq body hpass => ⟨fun hparse => ?bad,
    fun count start hparse => ⟨fun q hq hnone => ?notFound, fun earlier run hrecords hstart => ?taken⟩⟩⟩
  case bytes =>
    cases r with
    | edge seq line direction => cases direction <;> rfl
    | gap seq lost first last isOpen => rfl
  case bad =>
    refine exec_refused (own := answerReadJournal) (st := .badValue) rfl hpass ?_
    rw [answerReadJournal, hparse, withOperands]
  case notFound =>
    subst hq
    have hrun : s.journal.run (some q) = none := by
      simp only [Journal.run, Journal.runFrom, findIdx?_seq_none hnone]
    refine exec_refused (own := answerReadJournal) (st := .notFound) rfl hpass ?_
    rw [answerReadJournal, hparse, withOperands, State.received_journal]
    simp only [hrun]
  case taken =>
    have hrun : s.journal.run start = some run := by
      rcases hstart with ⟨rfl, rfl⟩ | ⟨r, rs, rfl, rfl, hfirst⟩
      · rw [Journal.run, hrecords, List.nil_append]
      · simp only [Journal.run, Journal.runFrom, hrecords, findIdx?_seq hfirst, List.drop_left]
    obtain ⟨given, rest, htake, hsum, hover, hfit⟩ := fitting_map JournalRecord.bytes (run.take count) 240
    refine ⟨given, rest, htake, hsum, hover, (exec_readJournal hpass hparse hrun).trans ?_⟩
    have hcontent : readJournalContent s.journal (run.take count) =
        leBytes 2 s.journal.records.length ++ leBytes 4 s.journal.oldest.toNat ++
          [oneByte given.length] ++ given.flatMap (·.bytes) := by
      simp only [readJournalContent, hfit, Journal.held, List.length_map, List.flatMap_def]
    rw [hcontent]
    unfold Journal.oldest
    cases s.journal.records <;> rfl

theorem field_whole {body : List Byte} {width : Nat} (h : body.length = width) :
    field body 0 width = leNat body := field_rest (before := []) rfl h

/-- Settles O29, by the record or the threshold that the request names. -/
theorem releaseClearAndSetJournal : Obligations.ReleaseClearAndSetJournal := by
  refine ⟨?release, fun s seq hpass => ?clear, ?set⟩
  case release =>
    rintro s seq body q rfl hpass
    have hfield := field_whole (of_decide_eq_true (passes_length hpass) : body.length = 4)
    refine ⟨fun hnone => ?_, fun earlier r later hrecords hq hfirst => ?_⟩
    · refine exec_refused (own := answerReleaseJournal) (st := .notFound) rfl hpass ?_
      rw [answerReleaseJournal, State.received_journal, hfield, Journal.countThrough,
        findIdx?_seq_none hnone]
      rfl
    · have hcount : s.journal.countThrough (BitVec.ofNat 32 (leNat body)) = some (earlier.length + 1) := by
        rw [← hq] at hfirst ⊢
        rw [Journal.countThrough, hrecords, findIdx?_seq hfirst]
        rfl
      have hrelease : s.journal.release (earlier.length + 1) = { s.journal with records := later } := by
        rw [Journal.release, hrecords, List.drop_length_add_append]
        rfl
      refine exec_journal (own := answerReleaseJournal) rfl hpass ?_
      rw [answerReleaseJournal, State.received_journal, hfield]
      simp only [hcount, hrelease, Journal.held]
  case clear =>
    refine exec_journal (own := answerClearJournal) rfl hpass ?_
    rw [answerClearJournal, State.received_journal]
    rfl
  case set =>
    rintro s seq body t rfl hpass
    have hfield := field_whole (of_decide_eq_true (passes_length hpass) : body.length = 2)
    refine ⟨fun ht => ?_, fun ht => ?_⟩
    · have hparse : parseThreshold body = some (leNat body) := by
        rw [parseThreshold, hfield]; exact if_pos ht
      refine exec_journal (own := answerSetJournal) rfl hpass ?_
      rw [answerSetJournal, hparse, withOperands, State.received_journal]
      rfl
    · have hparse : parseThreshold body = none := by
        rw [parseThreshold, hfield]; exact if_neg (by omega)
      refine exec_refused (own := answerSetJournal) (st := .badValue) rfl hpass ?_
      rw [answerSetJournal, hparse, withOperands]

/-! #### An edge taken -/

theorem JournalRecord.isOpenGap_iff {r : JournalRecord} :
    r.isOpenGap = true ↔ ∃ q lost first last, r = .gap q lost first last true := by
  cases r <;> simp [JournalRecord.isOpenGap]

theorem Journal.openGapNewest_concat {j : Journal} {earlier : List JournalRecord} {r : JournalRecord}
    (h : j.records = earlier ++ [r]) : j.openGapNewest = r.isOpenGap := by
  simp [Journal.openGapNewest, h]

theorem Journal.openGapNewest_iff (j : Journal) : j.openGapNewest = true ↔
    ∃ earlier q lost first last, j.records = earlier ++ [.gap q lost first last true] := by
  constructor
  · intro h
    rcases List.eq_nil_or_concat j.records with hnil | ⟨earlier, r, hr⟩
    · simp [Journal.openGapNewest, hnil] at h
    · rw [List.concat_eq_append] at hr
      rw [Journal.openGapNewest_concat hr, JournalRecord.isOpenGap_iff] at h
      obtain ⟨q, lost, first, last, rfl⟩ := h
      exact ⟨earlier, q, lost, first, last, hr⟩
  · rintro ⟨earlier, q, lost, first, last, hr⟩
    exact Journal.openGapNewest_concat hr

/-- Only an open GAP is changed by its closing. -/
theorem changeNewest_close {j : Journal} (h : j.openGapNewest = false) :
    changeNewest JournalRecord.close j.records = j.records := by
  rcases List.eq_nil_or_concat j.records with hnil | ⟨earlier, r, hr⟩
  · rw [hnil]; rfl
  · rw [List.concat_eq_append] at hr
    rw [Journal.openGapNewest_concat hr] at h
    have hclose : r.close = r := by
      cases r with
      | edge => rfl
      | gap _ _ _ _ isOpen => obtain rfl : isOpen = false := h; rfl
    rw [hr, changeNewest_append, hclose]

/-- The snapshot of a line's bank, bit by bit (R45). -/
theorem State.bankSnapshot_getLsbD (s : State) (i j : LineNo) (k : Fin 8)
    (h : j.val = 8 * (i.val / 8) + k.val) :
    (s.bankSnapshot i).getLsbD k.val = decide (s.lines[j].sensedLevel = .high) := by
  refine (levelByte_getLsbD _ k).trans ?_
  simp only [bankOf, ← h, Fin.getElem_fin]

theorem Sense.journals_iff {sense : Sense} {direction : Direction} : sense.journals direction = true ↔
    sense = .both ∨ (sense = .rise ∧ direction = .rise) ∨ (sense = .fall ∧ direction = .fall) := by
  cases sense <;> cases direction <;> decide

/-- Settles O30, by the held count and the newest record. -/
theorem journalTakesEdge : Obligations.JournalTakesEdge := by
  refine ⟨fun j => ⟨?oldest, Journal.openGapNewest_iff j⟩, fun _ _ => Sense.journals_iff,
    fun s e => ⟨fun hno => ?unselected, fun hyes => ⟨s.bankSnapshot e.line,
      fun k i hi => State.bankSnapshot_getLsbD s e.line i k hi, fun hroom hgap => ?edge,
      fun hfull hgap => ?gap, fun earlier q lost first last hrecords => ?openGap⟩⟩⟩
  case oldest => unfold Journal.oldest; cases j.records <;> rfl
  case unselected => rw [State.takeJournalEdge_eq, hno, if_neg (by decide)]
  all_goals rw [State.takeJournalEdge_eq, if_pos hyes, Journal.append]
  case edge =>
    have hheld : s.journal.held < 255 := hroom
    rw [if_pos hheld, changeNewest_close hgap]
  case gap =>
    have hheld : ¬ s.journal.held < 255 := Nat.not_lt.mpr hfull
    rw [if_neg hheld, hgap, if_neg (by decide)]
  case openGap =>
    refine ⟨fun hroom => ?_, fun hfull => ?_⟩
    · have hheld : s.journal.held < 255 := hroom
      rw [if_pos hheld, hrecords, changeNewest_append, List.append_assoc]
      rfl
    · have hheld : ¬ s.journal.held < 255 := Nat.not_lt.mpr hfull
      have hopen : s.journal.openGapNewest = true := Journal.openGapNewest_concat hrecords
      rw [if_neg hheld, if_pos hopen, hrecords, changeNewest_append]
      rfl

end Sys2Proof.Machine
end


/-! ### Schedule requests: SUBMIT ACTION and the reads (R60 to R71, R87 to R89) -/

section
set_option Elab.async false
namespace Sys2Proof.Machine

variable {s : State}

/-! #### SUBMIT ACTION -/

theorem Action.names_iff (a : Action) (i : LineNo) : a.names i = true ↔
    (∃ t ∈ a.targets, t.line = i) ∨ ∃ g ∈ a.guard, g.line = i := by
  unfold Action.names
  cases a.guard <;> simp

/-- A refusal of SUBMIT ACTION as it is sent: the code of its status, and its addition. -/
def refusalBytes (r : Status × List Byte) : Byte × List Byte := (r.1.code, r.2)

theorem Schedule.find_isSome (c : Schedule) (id : Nat) :
    (c.find id).isSome = c.entries.any fun e => decide (e.action.id = id) := by
  exact Bool.eq_iff_iff.mpr (List.find?_isSome.trans List.any_eq_true.symm)

theorem State.badTarget_eq (s : State) (a : Action) :
    s.badTarget a = (a.targets.find? fun t => !s.lines[t.line].isOutput).map (·.line) := by
  rw [State.badTarget, State.firstNotOutput, List.find?_map]
  rfl

theorem State.badGuard_eq (s : State) (a : Action) :
    s.badGuard a = (a.guard.filter fun g => !s.lines[g.line].isSensed).map (·.line) := by
  unfold State.badGuard
  cases a.guard with
  | none => rfl
  | some g =>
    rw [Option.filter_some]
    by_cases h : s.lines[g.line].isSensed = true
    · rw [if_neg (by rw [h]; decide)]; exact if_pos h
    · rw [if_pos (by rw [Bool.eq_false_iff.mpr h]; decide)]; exact if_neg h

theorem Action.repeatConflict_eq (a : Action) : a.repeatConflict = a.rep.any (fun r =>
    a.guard.any (fun g => decide (g.mode ≠ .skip)) || a.hold.any fun h => decide (r.period ≤ h)) := by
  unfold Action.repeatConflict
  cases a.rep <;> cases a.guard <;> cases a.hold <;> rfl

/-- Checks 6 and 7 of R62 passed. -/
theorem badDue_none {due : Option Nat} {now : Nat} (h : badDue due now = none) :
    ¬ (due.any fun due => decide (due < now + 50)) = true ∧
      ¬ (due.any fun due => decide (now + 4294967295 < due)) = true := by
  cases due with
  | none => exact ⟨Bool.false_ne_true, Bool.false_ne_true⟩
  | some d =>
    simp only [badDue] at h
    split_ifs at h with hlate hrange
    rw [Option.any_some, Option.any_some, decide_eq_true_eq, decide_eq_true_eq]
    exact ⟨hlate, hrange⟩

/-- Check 6 or 7 of R62 refuses. -/
theorem badDue_some {due : Option Nat} {now : Nat} {st : Status} {rest : Option (Byte × List Byte)}
    (h : badDue due now = some st) :
    some (st.code, timeBytes now) =
      if (due.any fun due => decide (due < now + 50)) = true then some (0x40, timeBytes now)
      else if (due.any fun due => decide (now + 4294967295 < due)) = true then
        some (0x41, timeBytes now)
      else rest := by
  cases due with
  | none => cases h
  | some d =>
    simp only [badDue] at h
    rw [Option.any_some, Option.any_some]
    simp only [decide_eq_true_eq]
    split_ifs at h ⊢
    · cases h; rfl
    · cases h; rfl

/-- The refusal of a submission, in the words of the statement: the same checks in the same order. -/
theorem State.submitRefusal_eq (s : State) (x : Submission) :
    (s.submitRefusal x).map refusalBytes = s.submissionRefusal x := by
  unfold State.submitRefusal State.submissionRefusal
  dsimp only
  rw [Schedule.find_isSome, State.badTarget_eq, State.badGuard_eq, Action.repeatConflict_eq]
  by_cases hid : s.schedule.entries.any (fun e => decide (e.action.id = x.action.id)) = true
  · rw [if_pos hid, if_pos hid]; rfl
  rw [if_neg hid, if_neg hid]
  by_cases hfull : 48 ≤ s.schedule.entries.length
  · rw [if_pos hfull, if_pos hfull]; rfl
  rw [if_neg hfull, if_neg hfull]
  cases x.action.targets.find? fun t => !s.lines[t.line].isOutput with
  | some t => rfl
  | none =>
  dsimp only [Option.map_none]
  cases x.action.guard.filter fun g => !s.lines[g.line].isSensed with
  | some g => rfl
  | none =>
  dsimp only [Option.map_none]
  cases hdue : badDue (x.dueAt s.now) s.now with
  | some st => exact badDue_some hdue
  | none =>
  obtain ⟨hlate, hrange⟩ := badDue_none hdue
  rw [if_neg hlate, if_neg hrange]
  dsimp only
  by_cases hrep : (x.action.rep.any fun r => x.action.guard.any (fun g => decide (g.mode ≠ .skip)) ||
      x.action.hold.any fun h => decide (r.period ≤ h)) = true
  · rw [if_pos hrep, if_pos hrep]; rfl
  rw [if_neg hrep, if_neg hrep, Schedule.badChain]
  cases x.action.chain with
  | none => rfl
  | some c =>
    dsimp only [Schedule.find]
    cases s.schedule.entries.find? fun e => decide (e.action.id = c.predecessor) with
    | none => rfl
    | some p =>
      dsimp only
      cases p.action.rep <;> rfl

theorem State.submissionRefusal_received (s : State) (f : Frame) (x : Submission) :
    (s.received f).submissionRefusal x = s.submissionRefusal x := by
  simp only [State.submissionRefusal, State.received_schedule, State.received_lines, State.received_now]

theorem Submission.dueAt_eq (x : Submission) (now : Nat) : x.dueAt now = match x.due with
    | some (.absolute t) => some t
    | some (.relative d) => some (now + d)
    | none => none := by
  unfold Submission.dueAt
  cases x.due with
  | none => rfl
  | some due => cases due <;> rfl

/-- An admission, as one whole next state (R10, R68). -/
theorem State.admitted_eq (s : State) (x : Submission) : s.admitted x = { s with
    schedule := { s.schedule with
      entries := s.schedule.entries ++ [admittedEntry x.action (x.dueAt s.now) s.schedule.counter]
      counter := s.schedule.counter + 1 }
    lines := Vector.ofFn fun i =>
      if x.action.names i then { s.lines[i] with refs := s.lines[i].refs + 1 } else s.lines[i] } := by
  unfold State.admitted State.addRefs State.mapLines
  rfl

/-- A schedule request that is taken: the schedule and the lines it leaves, and nothing else changed. -/
theorem exec_schedule {c : Instr} {f : Frame} {own : List Byte → State → Answer} {content : List Byte}
    {schedule : Schedule} {lines : Vector Line 40} (hexec : exec c s = .next (s.serve f own))
    (h : s.passes c f)
    (ho : own f.body (s.received f) = .done .ok content
      { s.received f with schedule := schedule, lines := lines }) :
    exec c s = .next { s.serving f 0x00 content with schedule := schedule, lines := lines } := by
  rw [exec_done hexec h ho rfl (State.received_now ..)]
  rfl

/-- Settles O32, by the first check that fails. -/
theorem submitAction : Obligations.SubmitAction := by
  refine ⟨Action.names_iff, fun s seq body hpass => ⟨fun hparse => ?bad, fun x hparse =>
    ⟨fun status addition hrefusal => ?refused, fun due hnone hdue => ?taken⟩⟩⟩
  case bad =>
    refine exec_refused (own := answerSubmit) (st := .badValue) rfl hpass ?_
    rw [answerSubmit, hparse, withOperands]
  all_goals
    have hrefusal := State.submitRefusal_eq (s.received ⟨seq, 0x30, body⟩) x
    rw [State.submissionRefusal_received] at hrefusal
  case refused h =>
    obtain ⟨⟨st, extra⟩, hst, hbytes⟩ := Option.map_eq_some_iff.mp (hrefusal.trans h)
    cases hbytes
    refine exec_refused (own := answerSubmit) rfl hpass ?_
    rw [answerSubmit, hparse, withOperands]
    simp only [hst]
  case taken =>
    have hpassed := Option.map_eq_none_iff.mp (hrefusal.trans hnone)
    have hdueAt : x.dueAt s.now = due := (Submission.dueAt_eq x s.now).trans (hdue ▸ rfl)
    refine exec_schedule (own := answerSubmit) rfl hpass ?_
    rw [answerSubmit, hparse, withOperands]
    simp only [hpassed]
    rw [State.admitted_eq, State.received_now, hdueAt, State.received_schedule, State.received_lines]
    cases due <;> rfl

/-! #### Schedule order -/

theorem Entry.beforeOrLevel_iff {a b : Entry} : a.beforeOrLevel b = true ↔ b.state.due = none ∨
    ∃ x y : Nat, a.state.due = some x ∧ b.state.due = some y ∧ x ≤ y := by
  unfold Entry.beforeOrLevel
  cases a.state.due <;> cases b.state.due <;> simp

/-- Of two entries one may stand before the other, and not both ways when their due times differ. -/
theorem Entry.beforeOrLevel_total {a b : Entry} (h : ¬ a.beforeOrLevel b = true) :
    b.beforeOrLevel a = true ∧ a.state.due ≠ b.state.due := by
  unfold Entry.beforeOrLevel at *
  cases ha : a.state.due <;> cases hb : b.state.due <;> simp_all
  omega

theorem Entry.beforeOrLevel_trans {a b c : Entry} (hab : a.beforeOrLevel b = true)
    (hbc : b.beforeOrLevel c = true) : a.beforeOrLevel c = true := by
  unfold Entry.beforeOrLevel at *
  cases ha : a.state.due <;> cases hb : b.state.due <;> cases hc : c.state.due <;>
    simp_all
  omega

/-- An entry put in its place keeps the order. -/
theorem insertInOrder_pairwise (e : Entry) : ∀ {l : List Entry},
    l.Pairwise (fun a b => a.beforeOrLevel b = true) →
      (insertInOrder e l).Pairwise fun a b => a.beforeOrLevel b = true
  | [], _ => List.pairwise_singleton _ _
  | x :: xs, h => by
    obtain ⟨hx, hxs⟩ := List.pairwise_cons.mp h
    rw [insertInOrder]
    split_ifs with he
    · refine List.pairwise_cons.mpr ⟨fun y hy => ?_, h⟩
      rcases List.mem_cons.mp hy with rfl | hy
      · exact he
      · exact Entry.beforeOrLevel_trans he (hx y hy)
    · refine List.pairwise_cons.mpr ⟨fun y hy => ?_, insertInOrder_pairwise e hxs⟩
      rcases (mem_insertInOrder e y xs).mp hy with rfl | hy
      · exact (Entry.beforeOrLevel_total he).1
      · exact hx y hy

theorem scheduleOrder_pairwise : ∀ entries : List Entry,
    (scheduleOrder entries).Pairwise fun a b => a.beforeOrLevel b = true
  | [] => List.Pairwise.nil
  | e :: entries => insertInOrder_pairwise e (scheduleOrder_pairwise entries)

/-- An entry passes none of its own due time on the way to its place. -/
theorem insertInOrder_filter (e : Entry) (due : Option Nat) : ∀ l : List Entry,
    (insertInOrder e l).filter (fun e => decide (e.state.due = due)) =
      (e :: l).filter fun e => decide (e.state.due = due)
  | [] => rfl
  | x :: xs => by
    rw [insertInOrder]
    split_ifs with he
    · rfl
    · have hne := (Entry.beforeOrLevel_total he).2
      rw [List.filter_cons, insertInOrder_filter e due xs]
      by_cases hx : x.state.due = due
      · have he' : ¬ e.state.due = due := fun h => hne (h.trans hx.symm)
        simp [hx, he']
      · simp [List.filter_cons, hx]

theorem scheduleOrder_filter (due : Option Nat) : ∀ entries : List Entry,
    (scheduleOrder entries).filter (fun e => decide (e.state.due = due)) =
      entries.filter fun e => decide (e.state.due = due)
  | [] => rfl
  | e :: entries => by
    rw [scheduleOrder, List.foldr_cons, insertInOrder_filter, List.filter_cons, List.filter_cons,
      ← scheduleOrder_filter due entries, scheduleOrder]

/-! #### The reads -/

/-- The content of QUERY ACTION, in the words of the statement. -/
theorem exec_queryAction {seq : Byte} {body : List Byte} {e : Entry}
    (hpass : s.passes (.queryAction seq body) ⟨seq, 0x33, body⟩) (hid : leNat body ≠ 0)
    (hfind : s.schedule.find (leNat body) = some e) :
    exec (.queryAction seq body) s = .next (s.serving ⟨seq, 0x33, body⟩ 0x00 (queryContent e)) := by
  have hfield := field_whole (of_decide_eq_true (passes_length hpass) : body.length = 2)
  refine exec_read (own := answerQueryAction) (st := .ok) rfl hpass ?_
  rw [answerQueryAction, parseQueryAction, hfield, if_neg hid, withOperands, State.received_schedule]
  simp only [hfind]

/-- A request answered leaves the schedule as it is. -/
theorem State.serving_schedule (s : State) (f : Frame) (code : Byte) (content : List Byte) :
    { s.serving f code content with schedule := s.schedule } = s.serving f code content := by
  have h : (s.serving f code content).schedule = s.schedule := State.received_schedule s f
  rw [← h]

/-- The part of a list from an index, of at most so many, by what stands before and after it. -/
theorem take_drop_split {α : Type} (l : List α) (start count : Nat) :
    ∃ earlier later, l = earlier ++ (l.drop start).take count ++ later ∧
      earlier.length = min start l.length ∧
      ((l.drop start).take count).length = min count (l.length - start) :=
  ⟨l.take start, (l.drop start).drop count, by rw [List.append_assoc, List.take_append_drop,
    List.take_append_drop], List.length_take, by rw [List.length_take, List.length_drop]⟩

/-- Settles O35: the codes by their tables, the replies by their contents, the order by its insertion. -/
theorem scheduleReads : Obligations.ScheduleReads := by
  refine ⟨fun _ _ => rfl, fun cause id => by cases cause <;> rfl,
    fun c id => ⟨Schedule.find_none, fun e => Schedule.find_some⟩, ?query,
    fun s seq start count hpass => ⟨fun hstart hlow hhigh => ?list, fun hbad => ?listRefused⟩,
    fun s seq clear hpass => ⟨fun hclear => ?outcomes, fun hbad => ?outcomesRefused⟩,
    fun entries => ⟨scheduleOrder_perm entries, ?order, fun due => scheduleOrder_filter due entries⟩⟩
  case query =>
    rintro s seq body id rfl hpass
    have hfield := field_whole (of_decide_eq_true (passes_length hpass) : body.length = 2)
    refine ⟨fun hid => ?_, fun hid hfind => ?_, fun e hid hfind => ?_⟩
    · refine exec_refused (own := answerQueryAction) (st := .badValue) rfl hpass ?_
      rw [answerQueryAction, parseQueryAction, hfield, if_pos hid, withOperands]
    · refine exec_refused (own := answerQueryAction) (st := .notFound) rfl hpass ?_
      rw [answerQueryAction, parseQueryAction, hfield, if_neg hid, withOperands, State.received_schedule]
      simp only [hfind]
    · rw [exec_queryAction hpass hid hfind, queryContent, Entry.remaining, Entry.done]
      cases e.action.chain <;> cases e.action.rep <;> rfl
  case list =>
    obtain ⟨earlier, later, hsplit, hbefore, hgiven⟩ :=
      take_drop_split (scheduleOrder s.schedule.entries) start.toNat count.toNat
    rw [(scheduleOrder_perm _).length_eq] at hbefore hgiven
    refine ⟨_, earlier, later, hsplit, hbefore, hgiven, ?_⟩
    have hparse : parseListSchedule [start, count] = some (start.toNat, count.toNat) :=
      if_pos ⟨hstart, hlow, hhigh⟩
    refine (exec_read (own := answerListSchedule) (st := .ok) rfl hpass ?_)
    rw [answerListSchedule, hparse, withOperands, State.received_schedule]
    simp only [listScheduleContent, List.length_map, List.flatMap_def]
    rfl
  case listRefused =>
    have hparse : parseListSchedule [start, count] = none :=
      if_neg fun ⟨hstart, hlow, hhigh⟩ => by
        rcases hbad with h | h | h
        · exact absurd hstart (Nat.not_le.mpr h)
        · exact absurd hlow (Nat.not_le.mpr h)
        · exact absurd hhigh (Nat.not_le.mpr h)
    refine exec_refused (own := answerListSchedule) (st := .badValue) rfl hpass ?_
    rw [answerListSchedule, hparse, withOperands]
  case outcomes =>
    have hclear' : clear = 0 ∨ clear = 1 := by
      rcases Nat.le_one_iff_eq_zero_or_eq_one.mp hclear with h | h
      · exact .inl (BitVec.eq_of_toNat_eq h)
      · exact .inr (BitVec.eq_of_toNat_eq h)
    have hcontent : readOutcomesContent (s.received ⟨seq, 0x35, [clear]⟩).schedule =
        oneByte s.schedule.outcomes.length :: s.schedule.outcomes.flatMap fun r =>
          leBytes 2 r.id ++ [r.outcome.code] ++ timeBytes r.completion ++ leBytes 2 r.applied ++
            leBytes 2 r.skipped ++ r.outcome.detail := by
      rw [State.received_schedule]; rfl
    rcases hclear' with rfl | rfl
    · rw [← hcontent]
      refine (exec_read (own := answerReadOutcomes) (st := .ok) rfl hpass rfl).trans ?_
      exact congrArg Host.Outcome.next (State.serving_schedule s _ _ _).symm
    · rw [← hcontent]
      refine (exec_done (own := answerReadOutcomes) (st := .ok) rfl hpass rfl rfl
        (State.received_now ..)).trans ?_
      unfold State.clearOutcomes
      rw [State.received_schedule]
      rfl
  case outcomesRefused =>
    have hparse : parseReadOutcomes [clear] = none := flagOf?_none hbad
    refine exec_refused (own := answerReadOutcomes) (st := .badValue) rfl hpass ?_
    rw [answerReadOutcomes, hparse, withOperands]
  case order =>
    simpa only [Entry.beforeOrLevel_iff] using scheduleOrder_pairwise entries

end Sys2Proof.Machine
end


/-! ### Cancels, due arrivals and guard waits (R72 to R108) -/

section
set_option Elab.async false
namespace Sys2Proof.Machine

variable {s t : State}

/-! #### CANCEL ACTION and CANCEL GROUP -/

/-- The claims of a class that some lines of the part hold, counted line by line. -/
theorem countP_lines (s : State) (p : Line → Bool) :
    s.lines.toList.countP p = (List.finRange 40).countP fun i => p s.lines[i] := by
  have hlist : s.lines.toList = (List.finRange 40).map fun i => s.lines[i] := by
    refine List.ext_getElem (by simp) fun i h1 h2 => ?_
    simp
  rw [hlist, List.countP_map]
  rfl

/-- The release of the SCHEDULE claims of some actions, in the words of the statement. -/
theorem State.releaseIf_eq {test : Claim → Bool} {ids : List Nat} (flag : Bool)
    (h : ∀ l : Line, l.holds .schedule test = l.scheduledBy ids) :
    t.releaseIf flag .schedule test = t.releasing flag ids := by
  unfold State.releaseIf State.releasing
  cases flag with
  | false =>
    simp
  | true =>
    rw [if_pos rfl, State.dropClaims, State.mapLines_eq fun i => by rw [h]]
    rfl

theorem State.releasedIf_eq {test : Claim → Bool} {ids : List Nat} (flag : Bool)
    (h : ∀ l : Line, l.holds .schedule test = l.scheduledBy ids) :
    t.releasedIf flag .schedule test =
      if flag then (List.finRange 40).countP fun i => t.lines[i].scheduledBy ids else 0 := by
  rw [State.releasedIf, State.countClaims, countP_lines]
  simp only [h]

theorem Line.holds_fromAction (l : Line) (id : Nat) :
    l.holds .schedule (fromOrigin (.action id)) = l.scheduledBy [id] := by
  unfold Line.holds Line.scheduledBy ClaimSet.get
  cases l.claims.schedule <;> simp [fromOrigin]

theorem Line.holds_fromActions (l : Line) (ids : List Nat) :
    l.holds .schedule (fromActions ids) = l.scheduledBy ids := by
  unfold Line.holds Line.scheduledBy ClaimSet.get
  cases l.claims.schedule with
  | none => rfl
  | some c =>
    simp only [fromActions, Option.any_some]
    cases c.origin with
    | none | slot k => simp
    | action id => rw [Bool.eq_iff_iff, List.contains_iff_mem, List.any_eq_true]; simp

/-- What makes of states those with fewer entries does so one after another. -/
theorem foldl_entries_sublist {α : Type} {f : State → α → State}
    (h : ∀ t a, (f t a).schedule.entries.Sublist t.schedule.entries) : ∀ (xs : List α) (t : State),
    (xs.foldl f t).schedule.entries.Sublist t.schedule.entries
  | [], _ => List.Sublist.refl _
  | x :: xs, t => (foldl_entries_sublist h xs (f t x)).trans (h t x)

/-- A leaving other than APPLIED takes entries out of the schedule and changes none: first the entry's own, then
those of its chain. -/
theorem State.leaveTree_sublist : ∀ (depth : Nat) (s : State) (e : Entry) (o : EntryOutcome),
    o ≠ .applied → (s.leaveTree depth e o).schedule.entries.Sublist s.schedule.entries ∧
      (0 < depth → ∀ x ∈ (s.leaveTree depth e o).schedule.entries, x.action.id ≠ e.action.id)
  | 0, _, _, _, _ => ⟨List.Sublist.refl _, nofun⟩
  | depth + 1, s, e, o, ho => by
    have hchain : (s.leaveTree (depth + 1) e o).schedule.entries.Sublist
        (s.leaveAlone e o).schedule.entries := by
      have hfold := foldl_entries_sublist (f := fun s d => s.leaveTree depth d (.orphaned e.action.id))
        (fun t d => (State.leaveTree_sublist depth t d (.orphaned e.action.id) nofun).1)
      cases o with
      | applied => exact absurd rfl ho
      | skipped | expired | cancelled | orphaned | aborted => exact hfold _ _
    rw [State.leaveAlone_eq, State.left_entries] at hchain
    refine ⟨hchain.trans List.filter_sublist, fun _ x hx => ?_⟩
    have hkept := (List.mem_filter.mp (hchain.subset hx)).2
    exact fun h => by simp [h] at hkept

/-- An entry that is queued leaves other than APPLIED: no entry of its id is queued any more. -/
theorem State.leave_gone {e : Entry} {o : EntryOutcome} (he : e ∈ s.schedule.entries)
    (ho : o ≠ .applied) : (s.leave e o).schedule.entries.Sublist s.schedule.entries ∧
      ∀ x ∈ (s.leave e o).schedule.entries, x.action.id ≠ e.action.id :=
  have h := State.leaveTree_sublist s.schedule.entries.length s e o ho
  ⟨h.1, h.2 (List.length_pos_of_mem he)⟩

/-- The turns of a group cancel take entries out of the schedule, and leave none of the ids in turn. -/
theorem State.cancelQueued_entries (cause : CancelCause) : ∀ (ids : List Nat) (acc : State × List Nat),
    (ids.foldl (State.cancelQueued cause) acc).1.schedule.entries.Sublist acc.1.schedule.entries ∧
      ∀ x ∈ (ids.foldl (State.cancelQueued cause) acc).1.schedule.entries, x.action.id ∉ ids
  | [], acc => ⟨List.Sublist.refl _, fun _ _ => List.not_mem_nil⟩
  | id :: ids, acc => by
    have hturn : (State.cancelQueued cause acc id).1.schedule.entries.Sublist acc.1.schedule.entries ∧
        ∀ x ∈ (State.cancelQueued cause acc id).1.schedule.entries, x.action.id ≠ id := by
      unfold State.cancelQueued
      cases hfind : acc.1.schedule.find id with
      | none => exact ⟨List.Sublist.refl _, Schedule.find_none.mp hfind⟩
      | some e =>
        obtain ⟨he, rfl⟩ := Schedule.find_some hfind
        exact State.leave_gone he nofun
    obtain ⟨hsub, hgone⟩ := State.cancelQueued_entries cause ids (State.cancelQueued cause acc id)
    refine ⟨hsub.trans hturn.1, fun x hx => ?_⟩
    rw [List.mem_cons, not_or]
    exact ⟨hturn.2 x (hsub.subset hx), hgone x hx⟩

/-- After a group cancel no entry of the group is queued, whatever the schedule was. -/
theorem State.cancelGroup_entries (s : State) (group : Nat) (cause : CancelCause) :
    (s.cancelGroup group cause).1.schedule.entries.Sublist s.schedule.entries ∧
      ∀ x ∈ (s.cancelGroup group cause).1.schedule.entries, x.action.group ≠ group := by
  obtain ⟨hsub, hgone⟩ := State.cancelQueued_entries cause
    (((scheduleOrder s.schedule.entries).filter fun e => decide (e.action.group = group)).map
      (·.action.id)) (s, [])
  refine ⟨hsub, fun x hx hgroup => hgone x hx (List.mem_map.mpr ⟨x, List.mem_filter.mpr ⟨?_, ?_⟩, rfl⟩)⟩
  · exact (mem_scheduleOrder _ _).mpr (hsub.subset hx)
  · exact decide_eq_true hgroup

/-- CANCEL GROUP with its body in order, by the entries that left CANCELLED. -/
theorem exec_cancelGroup {seq : Byte} {body : List Byte} {group : Nat} {release : Bool} {ids : List Nat}
    (hpass : s.passes (.cancelGroup seq body) ⟨seq, 0x32, body⟩)
    (hparse : parseCancelGroup body = some (group, release))
    (hcancel : (s.received ⟨seq, 0x32, body⟩).cancelGroup group .hostGroup = (t, ids)) :
    exec (.cancelGroup seq body) s = .next ((t.releasing release ids).answered ⟨seq, 0x32, body⟩ 0x00
      [oneByte ids.length,
        oneByte (s.schedule.entries.length - t.schedule.entries.length - ids.length),
        oneByte (if release then (List.finRange 40).countP fun i => t.lines[i].scheduledBy ids
          else 0)]) := by
  refine exec_answered (own := answerCancelGroup) (st := .ok) rfl hpass ?_
  rw [answerCancelGroup, hparse, withOperands]
  simp only [hcancel, State.releaseIf_eq release (Line.holds_fromActions · ids),
    State.releasedIf_eq release (Line.holds_fromActions · ids), furtherLeft, State.received_schedule]

/-- CANCEL ACTION on a queued entry. -/
theorem exec_cancelAction {seq : Byte} {body : List Byte} {id : Nat} {release : Bool} {e : Entry}
    (hpass : s.passes (.cancelAction seq body) ⟨seq, 0x31, body⟩)
    (hparse : parseCancelAction body = some (id, release)) (hfind : s.schedule.find id = some e)
    (ht : t = (s.received ⟨seq, 0x31, body⟩).leave e (.cancelled .host)) :
    exec (.cancelAction seq body) s = .next
      ((t.releasing release [id]).answered ⟨seq, 0x31, body⟩ 0x00
        (leBytes 2 e.applied ++ leBytes 2 e.skipped ++
          [oneByte (s.schedule.entries.length - t.schedule.entries.length - 1),
            oneByte (if release then (List.finRange 40).countP fun i => t.lines[i].scheduledBy [id]
              else 0)])) := by
  refine exec_answered (own := answerCancelAction) (st := .ok) rfl hpass ?_
  rw [answerCancelAction, hparse, withOperands]
  simp only [State.received_schedule, hfind, ← ht, State.releaseIf_eq release (Line.holds_fromAction · id),
    State.releasedIf_eq release (Line.holds_fromAction · id), furtherLeft]

theorem State.groupLeavings_received (s : State) (f : Frame) (group : Nat) (cause : CancelCause) :
    (s.received f).groupLeavings group cause = s.groupLeavings group cause := by
  simp only [State.groupLeavings, State.received_schedule]

/-- A leaving with its chain takes out one entry for each outcome. -/
theorem State.left_chain_length (hlaw : s.schedule.lawful) {e : Entry} (he : e ∈ s.schedule.entries)
    (o : EntryOutcome) {gone : List (Entry × EntryOutcome)}
    (hgone : gone = (e, o) :: orphansOf s.schedule.entries.length s.schedule.entries e.action.id) :
    s.schedule.entries.length = (s.left gone).schedule.entries.length + gone.length := by
  have hc := Schedule.lawful_chained hlaw
  have hbelow : ∀ x ∈ (orphansOf s.schedule.entries.length s.schedule.entries e.action.id).map (·.1),
      Below s.schedule.entries e.action.id x := by
    intro x hx
    obtain ⟨l, hl, rfl⟩ := List.mem_map.mp hx
    exact below_of_mem_orphansOf hl
  have hmap : gone.map (·.1) =
      e :: (orphansOf s.schedule.entries.length s.schedule.entries e.action.id).map (·.1) := by
    rw [hgone]; rfl
  have hcount := countP_filter_leaving hc (gone := gone.map (·.1))
    (by rw [hmap]; exact List.nodup_cons.mpr
          ⟨fun hee => lt_irrefl _ ((hbelow e hee).rank_lt hc he), orphansOf_nodup hc _ _⟩)
    (by rw [hmap]; exact fun x hx => (List.mem_cons.mp hx).elim (fun h => h ▸ he) fun h => (hbelow x h).mem)
    fun _ => true
  simp only [List.countP_true, List.all_map, List.length_map] at hcount
  rw [State.left_entries]
  exact hcount

/-- The turns of a group cancel take out one entry for each outcome. -/
theorem cancelTurns_length (cause : CancelCause) : ∀ (turns : List Entry) (s : State),
    s.schedule.lawful →
    (∀ a ∈ turns, ∀ b ∈ s.schedule.entries, a.action.id = b.action.id → a = b) →
    s.schedule.outcomes.length ≤ 16 →
    s.schedule.entries.length =
      (s.left (cancelTurns cause s.schedule.entries turns)).schedule.entries.length +
        (cancelTurns cause s.schedule.entries turns).length
  | [], s, _, _, hout => by rw [cancelTurns, State.left_nil hout]; rfl
  | e :: turns, s, hlaw, hturn, hout => by
    rw [cancelTurns]
    split_ifs with hany
    · obtain ⟨x, hx, hid⟩ := List.any_eq_true.mp hany
      obtain rfl := hturn e List.mem_cons_self x hx (of_decide_eq_true hid).symm
      have hlength := State.left_chain_length hlaw hx (.cancelled cause) rfl
      have hlaw' := State.left_lawful hlaw e (.cancelled cause)
      have hrest := cancelTurns_length cause turns _ hlaw' (fun a ha b hb => by
        rw [State.left_entries] at hb
        exact hturn a (List.mem_cons_of_mem _ ha) b (List.mem_of_mem_filter hb))
        (by simp only [State.left]; exact lastSixteen_length _)
      rw [State.left_left, State.left_entries] at hrest
      rw [State.left_entries] at hlength
      dsimp only
      rw [List.length_append]
      omega
    · exact cancelTurns_length cause turns s hlaw (fun a ha => hturn a (List.mem_cons_of_mem _ ha)) hout

theorem groupLeavings_length (hlaw : s.schedule.lawful) (hout : s.schedule.outcomes.length ≤ 16)
    (group : Nat) (cause : CancelCause) : s.schedule.entries.length =
      (s.left (s.groupLeavings group cause)).schedule.entries.length +
        (s.groupLeavings group cause).length :=
  cancelTurns_length cause _ s hlaw (fun a ha b hb => (Schedule.lawful_chained hlaw).distinct a
    ((mem_scheduleOrder _ _).mp (List.mem_of_mem_filter ha)) b hb) hout

/-- Settles O34, from the leavings of an entry and of a group. -/
theorem cancelRequests : Obligations.CancelRequests := by
  refine ⟨fun s seq body hpass => ⟨fun hparse => ?badAction, fun id release hparse =>
    ⟨fun hfind => ?notFound, fun e t hfind ht => exec_cancelAction hpass hparse hfind ht⟩⟩,
    fun s seq body hpass => ⟨fun hparse => ?badGroup, fun group release hparse =>
    ⟨⟨_, exec_cancelGroup hpass hparse rfl, ?noneLeft, ?others⟩, ?group⟩⟩, ?firing⟩
  case badAction =>
    refine exec_refused (own := answerCancelAction) (st := .badValue) rfl hpass ?_
    rw [answerCancelAction, hparse, withOperands]
  case notFound =>
    refine exec_refused (own := answerCancelAction) (st := .notFound) rfl hpass ?_
    rw [answerCancelAction, hparse, withOperands, State.received_schedule]
    simp only [hfind]
  case badGroup =>
    refine exec_refused (own := answerCancelGroup) (st := .badValue) rfl hpass ?_
    rw [answerCancelGroup, hparse, withOperands]
  case noneLeft =>
    exact ((s.received ⟨seq, 0x32, body⟩).cancelGroup_entries group .hostGroup).2
  case others =>
    have h := ((s.received ⟨seq, 0x32, body⟩).cancelGroup_entries group .hostGroup).1
    rwa [State.received_schedule] at h
  case group =>
    rintro ls ids t hlaw hout rfl rfl rfl
    have hlaw' : (s.received ⟨seq, 0x32, body⟩).schedule.lawful := by rwa [State.received_schedule]
    have hout' : (s.received ⟨seq, 0x32, body⟩).schedule.outcomes.length ≤ 16 := by
      rwa [State.received_schedule]
    have hcancel := State.cancelGroup_eq hlaw' hout' group .hostGroup
    have hlength := groupLeavings_length hlaw' hout' group .hostGroup
    rw [State.groupLeavings_received] at hcancel hlength
    rw [State.received_schedule] at hlength
    rw [exec_cancelGroup hpass hparse hcancel, hlength, Nat.add_sub_cancel_left]
  case firing =>
    intro s k d hlaw hout hgroup
    rw [State.groupCancelled, if_neg hgroup, State.cancelGroup_eq hlaw hout]

/-! #### Due arrivals -/

theorem State.leave_now (s : State) (e : Entry) (o : EntryOutcome) : (s.leave e o).now = s.now := by
  have h := congrArg State.now (State.leave_frame s e o)
  exact h

theorem Entry.dueBy_none {e : Entry} {now : Nat} (h : ∀ d, e.state = .timed d → now < d) :
    e.dueBy now = none := by
  unfold Entry.dueBy
  cases hs : e.state with
  | timed d => exact if_neg (Nat.not_le.mpr (h d hs))
  | guardWait | waitingPred => rfl

theorem Schedule.nextDue_first {c : Schedule} {earlier later : List Entry} {e : Entry} {due now : Nat}
    (horder : scheduleOrder c.entries = earlier ++ e :: later)
    (hearlier : ∀ x ∈ earlier, ∀ d, x.state = .timed d → now < d) (he : e.state = .timed due)
    (hdue : due ≤ now) : c.nextDue now = some (e, due) := by
  have hnone : earlier.findSome? (fun e => (e.dueBy now).map fun due => (e, due)) = none :=
    List.findSome?_eq_none_iff.mpr fun x hx => by rw [Entry.dueBy_none (hearlier x hx)]; rfl
  have hfirst : e.dueBy now = some due := by simp only [Entry.dueBy, he, if_pos hdue]
  rw [Schedule.nextDue, horder, List.findSome?_append, hnone, List.findSome?_cons, hfirst]
  rfl

theorem exec_dueArrival {e : Entry} {due : Nat} (hh : s.held = false)
    (hnext : s.schedule.nextDue s.now = some (e, due)) :
    exec .dueArrival s = .next (s.arrive e due).arbitrate := by
  refine congrArg Host.Outcome.next ?_
  rw [State.event_running hh]
  simp only [hnext]

/-- An entry that leaves at the end of an event. -/
theorem State.leave_arbitrate (s : State) (e : Entry) (o : EntryOutcome) : (s.leave e o).arbitrate =
    { s.leave e o with link := (s.leave e o).link.arbitrate s.now } :=
  congrArg (fun now => { s.leave e o with link := (s.leave e o).link.arbitrate now })
    (State.leave_now s e o)

/-- An iteration that is the last makes the entry leave. -/
theorem State.endIteration_last {e : Entry} {due : Nat} (h : e.atLast = true) :
    s.endIteration e due = s.leave e e.finalOutcome := if_pos h

/-- An iteration that is not the last makes the entry TIMED one period later. -/
theorem State.endIteration_again {e : Entry} {due : Nat} (h : e.atLast = false)
    (hs : s.link.settled) : (s.endIteration e due).arbitrate =
      { s with schedule := s.schedule.put { e with state := .timed (due + e.period) } } := by
  rw [State.endIteration, if_neg (by rw [h]; decide)]
  exact State.arbitrate_settled hs

theorem State.applyAction_eq (s : State) (a : Action) :
    s.applyAction a = s.targeted .schedule (.action a.id) a.hold a.targets :=
  State.applyTargets_eq ..

/-- An arrival whose guard, if it has one, is true. -/
theorem State.arrive_applied {e : Entry} (due : Nat)
    (h : ∀ g ∈ e.action.guard, s.lines[g.line].sensedLevel = g.wanted) :
    s.arrive e due = s.applyIteration e due := by
  unfold State.arrive
  cases hg : e.action.guard with
  | none => rfl
  | some g => exact if_pos (decide_eq_true (h g hg))

/-- An arrival whose guard is false, in the mode SKIP. -/
theorem State.arrive_skipped {e : Entry} {g : Guard} (due : Nat) (hg : e.action.guard = some g)
    (h : s.lines[g.line].sensedLevel ≠ g.wanted) (hskip : g.mode = .skip) :
    s.arrive e due = s.endIteration e.noteSkipped due := by
  have hfalse : ¬ s.guardTrue g := fun hg => h (of_decide_eq_true hg)
  unfold State.arrive
  simp only [hg, if_neg hfalse, hskip]

/-- An arrival whose guard is false, in the mode WAIT. -/
theorem State.arrive_waits {e : Entry} {g : Guard} {limit : Nat} (due : Nat)
    (hg : e.action.guard = some g) (h : s.lines[g.line].sensedLevel ≠ g.wanted)
    (hwait : g.mode = .wait limit) : s.arrive e due =
      { s with schedule := s.schedule.put { e with state := .guardWait due (due + limit) } } := by
  have hfalse : ¬ s.guardTrue g := fun hg => h (of_decide_eq_true hg)
  unfold State.arrive
  simp only [hg, if_neg hfalse, hwait]

section Targeted

variable (s : State) (cls : ClaimClass) (origin : Origin) (hold : Option Nat) (targets : List Target)

@[simp] theorem State.targeted_now : (s.targeted cls origin hold targets).now = s.now := by
  simp only [State.targeted]

@[simp] theorem State.targeted_schedule :
    (s.targeted cls origin hold targets).schedule = s.schedule := by
  simp only [State.targeted]

@[simp] theorem State.targeted_link : (s.targeted cls origin hold targets).link = s.link := by
  simp only [State.targeted]

end Targeted

theorem Entry.atLast_iff {e : Entry} {r : Repeat} (h : e.action.rep = some r) :
    e.period = r.period ∧ (e.atLast = true ↔ r.count ≠ 0 ∧ r.count ≤ e.applied + e.skipped) := by
  simp only [Entry.period, Entry.atLast, h, Entry.done, Bool.and_eq_true, true_and]
  exact and_congr decide_eq_true_iff decide_eq_true_iff

/-- Settles O36, by the guard of the first entry that is due and by whether the iteration is its last. -/
theorem dueArrival : Obligations.DueArrival := by
  refine ⟨fun e => ⟨fun h => by simp only [Entry.atLast, h], fun r h => Entry.atLast_iff h⟩,
    fun s hh hs => ⟨fun earlier later e due horder hearlier he hdue => ?due, fun hnone => ?none⟩⟩
  case due =>
    have hexec := exec_dueArrival hh (Schedule.nextDue_first horder hearlier he hdue)
    refine ⟨fun hguard done t hdone ht => ?applied, fun g hg hfalse =>
      ⟨fun hskip done hdone => ?skipped, fun limit hwait => ?waits⟩⟩
    case applied =>
      have hnow : t.now = s.now := by rw [ht, State.targeted_now]
      have hlink : t.link = s.link := by rw [ht, State.targeted_link]
      have hschedule : t.schedule = s.schedule := by rw [ht, State.targeted_schedule]
      have happlied : s.arrive e due = t.endIteration done due := by
        rw [State.arrive_applied due hguard, State.applyIteration, State.applyAction_eq, ← ht, hdone,
          Entry.noteApplied, bump16]
      refine ⟨fun hlast => ?_, fun hagain => ?_⟩
      · have houtcome : done.finalOutcome = .applied := by
          have happlied : done.applied ≠ 0 := by rw [hdone]; dsimp only; omega
          exact if_neg happlied
        rw [hexec, happlied, State.endIteration_last hlast, houtcome, State.leave_arbitrate, hnow]
      · have hset : t.link.settled := by rw [hlink]; exact hs
        rw [hexec, happlied, State.endIteration_again hagain hset, hschedule, hdone]
        rfl
    case skipped =>
      have hskips : s.arrive e due = s.endIteration done due := by
        rw [State.arrive_skipped due hg hfalse hskip, hdone, Entry.noteSkipped, bump16]
      refine ⟨fun o hlast ho => ?_, fun hagain => ?_⟩
      · have houtcome : done.finalOutcome = o := by rw [ho, hdone, Entry.finalOutcome]
        rw [hexec, hskips, State.endIteration_last hlast, houtcome, State.leave_arbitrate]
      · rw [hexec, hskips, State.endIteration_again hagain hs, hdone]
        rfl
    case waits =>
      rw [hexec, State.arrive_waits due hg hfalse hwait]
      exact congrArg Host.Outcome.next (State.arbitrate_settled hs)
  case none =>
    have hnext : s.schedule.nextDue s.now = none := by
      rw [← Option.not_isSome_iff_eq_none, Schedule.nextDue_isSome]
      rintro ⟨x, hx, due, hstate, hdue⟩
      exact absurd hdue (Nat.not_le.mpr (hnone x hx due hstate))
    exact congrArg Host.Outcome.next (State.event_same hs (by simp only [hnext]))

/-! #### Guard waits -/

theorem Entry.deadlineBy_iff {e : Entry} {now : Nat} : e.deadlineBy now = true ↔
    ∃ due deadline, e.state = .guardWait due deadline ∧ deadline ≤ now := by
  unfold Entry.deadlineBy
  cases e.state <;> simp

theorem Entry.wantsEdge_iff {e : Entry} {edge : Edge} : e.wantsEdge edge = true ↔
    ∃ due deadline g, e.state = .guardWait due deadline ∧ e.action.guard = some g ∧
      g.line = edge.line ∧
      (edge.direction = .rise ∧ g.wanted = .high ∨ edge.direction = .fall ∧ g.wanted = .low) := by
  unfold Entry.wantsEdge
  cases e.state with
  | timed | waitingPred => simp
  | guardWait due deadline =>
    cases e.action.guard with
    | none => simp
    | some g => cases hd : edge.direction <;> cases hw : g.wanted <;> simp [hw]

/-- An entry that waits for its guard is untouched by the leaving of another after APPLIED. -/
theorem State.appliedWaiting_mem {e x : Entry} {due deadline : Nat} (he : e ∈ s.schedule.entries)
    (hx : x ∈ s.schedule.entries) (hid : e.action.id ≠ x.action.id)
    (hstate : x.state = .guardWait due deadline) : x ∈ (s.appliedWaiting e).schedule.entries := by
  have hwaits : x.waitsFor e.action.id = false := by simp only [Entry.waitsFor, hstate]
  rw [State.appliedWaiting,
    State.leave_applied (by rw [State.targeted_schedule]; exact he)]
  refine List.mem_map.mpr ⟨x, ?_, by rw [hwaits]; rfl⟩
  rw [State.left_entries]
  exact List.mem_filter.mpr ⟨hx, by simpa using hid⟩

theorem State.appliedWaiting_nodup {e : Entry} (he : e ∈ s.schedule.entries)
    (hnodup : (s.schedule.entries.map (·.action.id)).Nodup) :
    ((s.appliedWaiting e).schedule.entries.map (·.action.id)).Nodup := by
  have hid : ∀ (now : Nat) (d : Entry),
      (if d.waitsFor e.action.id then d.release now else d).action.id = d.action.id := by
    intro now d
    simp only [Entry.release]
    repeat' split
    all_goals rfl
  rw [State.appliedWaiting,
    State.leave_applied (by rw [State.targeted_schedule]; exact he)]
  simp only [Schedule.releaseDependents, State.left_entries, List.map_map, State.targeted_now]
  rw [List.map_congr_left (g := (·.action.id)) fun d _ => by exact hid s.now d]
  rw [State.targeted_schedule]
  exact hnodup.sublist (List.filter_sublist.map _)

/-- An entry of an id that no other queued entry has is the one that is found. -/
theorem Schedule.find_of_mem {c : Schedule} (hnodup : (c.entries.map (·.action.id)).Nodup) {e : Entry}
    (he : e ∈ c.entries) : c.find e.action.id = some e := by
  cases hfind : c.find e.action.id with
  | none => exact absurd rfl (Schedule.find_none.mp hfind e he)
  | some x =>
    obtain ⟨hx, hid⟩ := Schedule.find_some hfind
    rw [List.inj_on_of_nodup_map hnodup hx he hid]

/-- Entries in GUARD_WAIT applied one after another, by their ids and as they were queued. -/
theorem foldl_applyWaiting : ∀ (turns : List Entry) (s : State),
    (s.schedule.entries.map (·.action.id)).Nodup → (turns.map (·.action.id)).Nodup →
    (∀ e ∈ turns, e ∈ s.schedule.entries ∧ ∃ due deadline, e.state = .guardWait due deadline) →
    (turns.map (·.action.id)).foldl State.applyWaiting s = turns.foldl State.appliedWaiting s
  | [], _, _, _, _ => rfl
  | e :: turns, s, hnodup, hturns, hwait => by
    obtain ⟨hfresh, hturns'⟩ := List.nodup_cons.mp hturns
    have he := (hwait e List.mem_cons_self).1
    have hfirst : s.applyWaiting e.action.id = s.appliedWaiting e := by
      rw [State.applyWaiting, Schedule.find_of_mem hnodup he, State.appliedWaiting]
      simp only [State.applyAction_eq]
      rfl
    rw [List.map_cons, List.foldl_cons, List.foldl_cons, hfirst]
    refine foldl_applyWaiting turns _ (State.appliedWaiting_nodup he hnodup) hturns' fun x hx => ?_
    obtain ⟨hmem, due, deadline, hstate⟩ := hwait x (List.mem_cons_of_mem _ hx)
    have hid : e.action.id ≠ x.action.id := fun h => hfresh (List.mem_map.mpr ⟨x, hx, h.symm⟩)
    exact ⟨State.appliedWaiting_mem he hmem hid hstate, due, deadline, hstate⟩

/-- Settles O37, by the first entry whose deadline has come, and by the entries that an edge satisfies. -/
theorem guardWaitEnds : Obligations.GuardWaitEnds := by
  refine ⟨fun s hh hs => ⟨fun earlier later e due deadline horder hearlier he hdeadline => ?deadline,
    fun hnone => ?none⟩, fun s edge => ⟨fun e => Entry.wantsEdge_iff, fun hnone => ?noEntry,
    fun hlaw => ?turns⟩⟩
  case deadline =>
    have hfirst : earlier.find? (·.deadlineBy s.now) = none :=
      List.find?_eq_none.mpr fun x hx h => by
        obtain ⟨a, b, hstate, hb⟩ := Entry.deadlineBy_iff.mp h
        exact absurd hb (Nat.not_le.mpr (hearlier x hx a b hstate))
    have hnext : s.schedule.nextDeadline s.now = some e := by
      rw [Schedule.nextDeadline, horder, List.find?_append, hfirst,
        List.find?_cons_of_pos (p := fun x : Entry => x.deadlineBy s.now)
          (Entry.deadlineBy_iff.mpr ⟨due, deadline, he, hdeadline⟩)]
      rfl
    refine congrArg Host.Outcome.next ?_
    rw [State.event_running hh]
    simp only [hnext]
    exact State.leave_arbitrate s e .expired
  case none =>
    have hnext : s.schedule.nextDeadline s.now = none := by
      rw [← Option.not_isSome_iff_eq_none, Schedule.nextDeadline_isSome]
      rintro ⟨x, hx, due, deadline, hstate, hdue⟩
      exact absurd hdue (Nat.not_le.mpr (hnone x hx due deadline hstate))
    exact congrArg Host.Outcome.next (State.event_same hs (by simp only [hnext]))
  case noEntry =>
    have hempty : (scheduleOrder s.schedule.entries).filter (·.wantsEdge edge) = [] :=
      List.filter_eq_nil_iff.mpr fun e he => by
        rw [hnone e ((mem_scheduleOrder _ _).mp he)]; decide
    rw [State.takeGuardEdge, hempty]
    rfl
  case turns =>
    obtain ⟨-, hnodup, -⟩ := hlaw
    have horder : ((scheduleOrder s.schedule.entries).map (·.action.id)).Nodup :=
      ((scheduleOrder_perm _).map _).nodup_iff.mpr hnodup
    refine foldl_applyWaiting _ s hnodup (horder.sublist (List.filter_sublist.map _)) fun e he => ?_
    obtain ⟨hmem, hwants⟩ := List.mem_filter.mp he
    obtain ⟨due, deadline, -, hstate, -⟩ := Entry.wantsEdge_iff.mp hwants
    exact ⟨(mem_scheduleOrder _ _).mp hmem, due, deadline, hstate⟩

end Sys2Proof.Machine
end


/-! ### Firings and watched edges (R113 to R120) -/

section
set_option Elab.async false
namespace Sys2Proof.Machine

/-! #### What a leaving and a cancel do not look at -/

/-- The part with another link and another free value to draw next. -/
def State.relinked (ψ : Link → Link) (ν : Nat → Nat) (s : State) : State :=
  { s with link := ψ s.link, freeIx := ν s.freeIx }

section Relinked

variable {ψ : Link → Link} {ν : Nat → Nat}

theorem State.relinked_enqueue (hψ : ∀ l c, ψ (l.enqueue c) = (ψ l).enqueue c) (s : State)
    (c : NoticeContent) : (s.relinked ψ ν).enqueue c = (s.enqueue c).relinked ψ ν := by
  unfold State.enqueue State.relinked
  dsimp only
  cases s.session.state with
  | noSession => rfl
  | active | failsafe => dsimp only; rw [hψ]

theorem State.relinked_mapLines (s : State) (f : LineNo → Line → Line) :
    (s.relinked ψ ν).mapLines f = (s.mapLines f).relinked ψ ν := by
  simp only [State.mapLines, State.relinked]

theorem State.relinked_leaveAlone (hψ : ∀ l c, ψ (l.enqueue c) = (ψ l).enqueue c) (s : State) (e : Entry)
    (o : EntryOutcome) : (s.relinked ψ ν).leaveAlone e o = (s.leaveAlone e o).relinked ψ ν := by
  have hdrop := State.relinked_mapLines (ψ := ψ) (ν := ν)
    { s with schedule := s.schedule.leave e (e.record o s.now) }
    fun i l => if e.action.names i then { l with refs := l.refs - 1 } else l
  unfold State.leaveAlone State.dropRefs
  dsimp only
  split
  · exact (congrArg (State.enqueue · _) hdrop).trans (State.relinked_enqueue hψ _ _)
  · exact hdrop

theorem State.relinked_leaveTree (hψ : ∀ l c, ψ (l.enqueue c) = (ψ l).enqueue c) : ∀ (depth : Nat)
    (s : State) (e : Entry) (o : EntryOutcome),
    (s.relinked ψ ν).leaveTree depth e o = (s.leaveTree depth e o).relinked ψ ν
  | 0, _, _, _ => rfl
  | depth + 1, s, e, o => by
    have hfold : ∀ (o : EntryOutcome) (ds : List Entry) (t : State),
        ds.foldl (fun s d => s.leaveTree depth d o) (t.relinked ψ ν) =
          (ds.foldl (fun s d => s.leaveTree depth d o) t).relinked ψ ν := by
      intro o ds
      induction ds with
      | nil => intro t; rfl
      | cons d ds ih =>
        intro t
        rw [List.foldl_cons, List.foldl_cons, State.relinked_leaveTree hψ depth, ih]
    unfold State.leaveTree
    rw [State.relinked_leaveAlone hψ]
    cases o with
    | applied => rfl
    | skipped | expired | aborted | cancelled | orphaned => exact hfold _ _ _

theorem State.relinked_leave (hψ : ∀ l c, ψ (l.enqueue c) = (ψ l).enqueue c) (s : State) (e : Entry)
    (o : EntryOutcome) : (s.relinked ψ ν).leave e o = (s.leave e o).relinked ψ ν :=
  State.relinked_leaveTree hψ _ s e o

theorem State.relinked_cancelQueued (hψ : ∀ l c, ψ (l.enqueue c) = (ψ l).enqueue c) (cause : CancelCause)
    (s : State) (ids : List Nat) (id : Nat) :
    State.cancelQueued cause (s.relinked ψ ν, ids) id =
      ((State.cancelQueued cause (s, ids) id).1.relinked ψ ν, (State.cancelQueued cause (s, ids) id).2) := by
  unfold State.cancelQueued
  dsimp only
  have hschedule : (s.relinked ψ ν).schedule = s.schedule := rfl
  rw [hschedule]
  cases s.schedule.find id with
  | none => rfl
  | some e => exact congrArg (·, _) (State.relinked_leave hψ s e _)

theorem State.relinked_cancelGroup (hψ : ∀ l c, ψ (l.enqueue c) = (ψ l).enqueue c) (s : State) (group : Nat)
    (cause : CancelCause) : (s.relinked ψ ν).cancelGroup group cause =
      ((s.cancelGroup group cause).1.relinked ψ ν, (s.cancelGroup group cause).2) := by
  have hfold : ∀ (turns ids : List Nat) (t : State),
      turns.foldl (State.cancelQueued cause) (t.relinked ψ ν, ids) =
        ((turns.foldl (State.cancelQueued cause) (t, ids)).1.relinked ψ ν,
          (turns.foldl (State.cancelQueued cause) (t, ids)).2) := by
    intro turns
    induction turns with
    | nil => intro ids t; rfl
    | cons id turns ih =>
      intro ids t
      rw [List.foldl_cons, List.foldl_cons, State.relinked_cancelQueued hψ, ih]
  exact hfold _ [] s

end Relinked

variable {s : State} {k : SlotNo}

/-! #### A firing -/

/-- The cancel of a firing, with another free value to draw next. -/
theorem State.fireCancel_free (n : Nat) (d : TriggerDef) :
    ({ s with freeIx := n } : State).fireCancel k d = { s.groupCancelled k d with freeIx := n } := by
  unfold State.fireCancel State.groupCancelled
  split
  · rfl
  · exact congrArg Prod.fst (State.relinked_cancelGroup (ψ := id) (ν := fun _ => n) (fun _ _ => rfl) s _ _)

/-- The notice of a firing, with another free value to draw next. -/
theorem State.fireNotice_free (n : Nat) (d : TriggerDef) (firings : Serial) :
    ({ s with freeIx := n } : State).fireNotice k d firings = { s.firingNoted k d firings with freeIx := n } := by
  unfold State.fireNotice State.firingNoted
  split
  · exact State.relinked_enqueue (ψ := id) (ν := fun _ => n) (fun _ _ => rfl) s _
  · rfl

/-- The group cancel and the notice of a firing come in one of the two orders. -/
theorem State.fireCancelAndNotice_order (s : State) (k : SlotNo) (d : TriggerDef) (firings : Serial) :
    ∃ u ∈ [(s.groupCancelled k d).firingNoted k d firings, (s.firingNoted k d firings).groupCancelled k d],
      ∃ ix ∈ [s.freeIx, s.freeIx + 1], s.fireCancelAndNotice k d firings = { u with freeIx := ix } := by
  have hfirst : ∀ n, (({ s with freeIx := n } : State).fireCancel k d).fireNotice k d firings =
      { (s.groupCancelled k d).firingNoted k d firings with freeIx := n } := fun n => by
    rw [State.fireCancel_free, State.fireNotice_free]
  have hsecond : ∀ n, (({ s with freeIx := n } : State).fireNotice k d firings).fireCancel k d =
      { (s.firingNoted k d firings).groupCancelled k d with freeIx := n } := fun n => by
    rw [State.fireNotice_free, State.fireCancel_free]
  unfold State.fireCancelAndNotice
  split_ifs
  · exact ⟨_, List.mem_cons_self, s.freeIx + 1, by simp, hfirst _⟩
  · exact ⟨_, List.mem_cons_of_mem _ List.mem_cons_self, s.freeIx + 1, by simp, hsecond _⟩
  · exact ⟨_, List.mem_cons_self, s.freeIx, by simp, hfirst _⟩

/-- The group cancel and the notice of a firing leave the slots and the clock as they are. -/
theorem State.fireCancelAndNotice_frame (s : State) (k : SlotNo) (d : TriggerDef) (firings : Serial) :
    (s.fireCancelAndNotice k d firings).now = s.now ∧
      (s.fireCancelAndNotice k d firings).slots = s.slots :=
  State.fireCancelAndNotice_keeps (fun t => t.now = s.now ∧ t.slots = s.slots)
    (fun t e o ht => ⟨(State.leave_now t e o).trans ht.1, (State.leave_slots t e o).trans ht.2⟩)
    (fun t c ht => by rw [State.enqueue_eq]; exact ht) (fun _ ht => ht) s k d firings ⟨rfl, rfl⟩

theorem Slot.fired_eq (slot : Slot) (mode : TriggerMode) (now : Nat) :
    { slot with firings := slot.firings + 1, phase := mode.afterFiring now } = slot.fired mode now := by
  unfold Slot.fired
  cases mode <;> rfl

/-- A firing, from the part whose targets have been applied. -/
theorem State.fire_eq {d : TriggerDef} (hd : s.slots[k].definition = some d) {t : State}
    (ht : t = s.targeted .trigger (.slot k) d.hold d.targets) :
    s.fire k = (t.fireCancelAndNotice k d (s.slots[k].firings + 1)).setSlot k
      (s.slots[k].fired d.mode s.now) := by
  have hslots : t.slots = s.slots := by rw [ht]; simp only [State.targeted]
  have hnow : t.now = s.now := by rw [ht, State.targeted_now]
  obtain ⟨hclock, hkept⟩ := t.fireCancelAndNotice_frame k d (s.slots[k].firings + 1)
  unfold State.fire
  rw [hd]
  dsimp only
  rw [State.applyTargets_eq, ← ht, hclock, hkept, hslots, hnow, ← Slot.fired_eq]

theorem State.fire_undefined (hd : s.slots[k].definition = none) : s.fire k = s := by
  unfold State.fire
  rw [hd]

/-- Settles O41, from the two orders of the group cancel and the notice. -/
theorem triggerFires : Obligations.TriggerFires := by
  intro s k d t hd ht
  have hix : t.freeIx = s.freeIx := by rw [ht]; simp only [State.targeted]
  have hslots : t.slots = s.slots := by rw [ht]; simp only [State.targeted]
  obtain ⟨u, hu, ix, hmem, hfire⟩ := t.fireCancelAndNotice_order k d (s.slots[k].firings + 1)
  have hkept : u.slots = s.slots := by
    have h := (t.fireCancelAndNotice_frame k d (s.slots[k].firings + 1)).2
    rw [hfire] at h
    exact h.trans hslots
  refine ⟨u, hu, ix, hix ▸ hmem, ?_⟩
  rw [State.fire_eq hd ht, hfire, State.setSlot, hkept]

/-! #### Watched edges -/

theorem EdgeChoice.selects_iff (choice : EdgeChoice) (direction : Direction) :
    choice.selects direction = true ↔ choice = .either ∨ (choice = .rise ∧ direction = .rise) ∨
      (choice = .fall ∧ direction = .fall) := by
  cases choice <;> cases direction <;> decide

theorem State.qualified_iff (s : State) (d : TriggerDef) : s.qualified d = true ↔ s.qualifies d := by
  unfold State.qualified State.qualifies
  cases d.qualifier <;> simp

/-- A slot that does not watch an edge is left as it is. -/
theorem State.offerEdge_unwatched {e : Edge} (h : ∀ d, s.slots[k].definition = some d →
    d.watched ≠ e.line ∨ d.edge.selects e.direction = false) : State.offerEdge e s k = s := by
  unfold State.offerEdge
  cases hd : s.slots[k].definition with
  | none => rfl
  | some d =>
    refine if_neg fun hw => ?_
    rcases h d hd with hline | hedge
    · exact hline hw.1
    · exact absurd hw.2 (by rw [hedge]; exact Bool.false_ne_true)

theorem State.offerEdge_watched {e : Edge} {d : TriggerDef} (hd : s.slots[k].definition = some d)
    (hline : d.watched = e.line) (hedge : d.edge.selects e.direction = true) :
    State.offerEdge e s k = s.takeWatched k d e := by
  unfold State.offerEdge
  rw [hd]
  exact if_pos ⟨hline, hedge⟩

/-- An edge that changes one slot alone, or makes it fire, changes no other slot. -/
theorem State.offerEdge_other_slot (e : Edge) {j : SlotNo} (h : j ≠ k) :
    (State.offerEdge e s k).slots[j] = s.slots[j] := by
  have hset : ∀ slot, (s.setSlot k slot).slots[j] = s.slots[j] := fun slot => by
    rw [State.setSlot_slot, if_neg (Ne.symm h)]
  have hfire := State.fire_other_slot s k j h
  unfold State.offerEdge State.takeWatched
  dsimp only
  repeat' split
  all_goals first
    | rfl
    | exact hset _
    | exact hfire

/-- Slots that do not watch an edge, offered it one after another. -/
theorem foldl_offerEdge_unwatched (e : Edge) : ∀ (ks : List SlotNo) (s : State),
    (∀ j ∈ ks, ∀ d, s.slots[j].definition = some d →
      d.watched ≠ e.line ∨ d.edge.selects e.direction = false) → ks.foldl (State.offerEdge e) s = s
  | [], _, _ => rfl
  | j :: ks, s, h => by
    rw [List.foldl_cons, State.offerEdge_unwatched (h j List.mem_cons_self)]
    exact foldl_offerEdge_unwatched e ks s fun i hi => h i (List.mem_cons_of_mem _ hi)

/-- The slots below a slot, the slot itself, and the slots above it. -/
theorem finRange_split {n : Nat} (k : Fin n) : ∃ below above : List (Fin n),
    List.finRange n = below ++ k :: above ∧ k ∉ below ∧ k ∉ above := by
  obtain ⟨below, above, h⟩ := List.append_of_mem (List.mem_finRange k)
  have hnodup := h ▸ List.nodup_finRange n
  rw [List.nodup_append] at hnodup
  obtain ⟨-, hright, hdisjoint⟩ := hnodup
  exact ⟨below, above, h, fun hk => hdisjoint k hk k List.mem_cons_self rfl,
    (List.nodup_cons.mp hright).1⟩

/-- Settles O40, by the state of the slot; an edge that one slot alone watches is offered to it alone. -/
theorem watchedEdge : Obligations.WatchedEdge := by
  refine ⟨EdgeChoice.selects_iff, fun s k e => ⟨fun h => State.offerEdge_unwatched h,
    fun d hd hline hedge => ?watched, rfl, fun halone => ?alone⟩⟩
  case watched =>
    rw [State.offerEdge_watched hd hline hedge]
    refine ⟨fun hphase => ?_, fun hphase hq hdelay => ?_, fun hphase =>
      ⟨fun hq hdelay => ?_, fun hq => ?_⟩, fun hphase => ?_⟩
    · simp only [State.takeWatched, hphase]
    · simp only [State.takeWatched, hphase, if_pos ((State.qualified_iff s d).mpr hq), if_pos hdelay]
    · have hqualified := (State.qualified_iff s d).mpr hq
      rcases hphase with hphase | ⟨⟨t, hphase⟩, hpolicy⟩
      · simp only [State.takeWatched, hphase, if_pos hqualified, if_neg hdelay, State.setSlot]
      · simp only [State.takeWatched, hphase, hpolicy, if_pos hqualified, State.setSlot]
    · have hunqualified : ¬ s.qualified d = true := fun h => hq ((State.qualified_iff s d).mp h)
      rcases hphase with hphase | ⟨⟨t, hphase⟩, hpolicy⟩
      · simp only [State.takeWatched, hphase, if_neg hunqualified, State.setSlot, Slot.disqualify, bump16]
      · simp only [State.takeWatched, hphase, hpolicy, if_neg hunqualified, State.setSlot,
          Slot.disqualify, bump16]
    · rcases hphase with ⟨⟨t, hphase⟩, hpolicy⟩ | ⟨t, hphase⟩
      · simp only [State.takeWatched, hphase, hpolicy, State.setSlot, Slot.suppress, bump16]
      · simp only [State.takeWatched, hphase, State.setSlot, Slot.suppress, bump16]
  case alone =>
    obtain ⟨below, above, hsplit, hbelow, habove⟩ := finRange_split k
    rw [State.takeTriggerEdge, hsplit, List.foldl_append, List.foldl_cons,
      foldl_offerEdge_unwatched e below s fun j hj => halone j fun h => hbelow (h ▸ hj)]
    refine foldl_offerEdge_unwatched e above _ fun j hj d hd => ?_
    have hother : j ≠ k := fun h => habove (h ▸ hj)
    exact halone j hother d (by rwa [State.offerEdge_other_slot e hother] at hd)

/-! #### Fire times and holdoff ends -/

/-- A firing takes no time. -/
theorem State.fire_now (s : State) (k : SlotNo) : (s.fire k).now = s.now := by
  cases hd : s.slots[k].definition with
  | none => rw [State.fire_undefined hd]
  | some d =>
    rw [State.fire_eq hd rfl, State.setSlot_now, (State.fireCancelAndNotice_frame _ k d _).1,
      State.targeted_now]

/-- The slots that are due fire one after another, each once and in the state that those before it have
left. -/
theorem foldl_fireIfDue : ∀ (ks : List SlotNo) (s : State), ks.Nodup →
    ks.foldl State.fireIfDue s =
      (ks.filter fun k => s.slots[k].fireDueBy s.now).foldl State.fire s
  | [], _, _ => rfl
  | k :: ks, s, hnodup => by
    obtain ⟨hk, hks⟩ := List.nodup_cons.mp hnodup
    rw [List.foldl_cons, State.fireIfDue]
    by_cases hdue : s.slots[k].fireDueBy s.now = true
    · have hsame : (ks.filter fun j => (s.fire k).slots[j].fireDueBy (s.fire k).now) =
          ks.filter fun j => s.slots[j].fireDueBy s.now :=
        List.filter_congr fun j hj => by
          rw [State.fire_now, State.fire_other_slot s k j fun h => hk (h ▸ hj)]
      rw [if_pos hdue, foldl_fireIfDue ks _ hks, hsame, List.filter_cons_of_pos (p := fun k : SlotNo => s.slots[k].fireDueBy s.now) hdue,
        List.foldl_cons]
    · rw [if_neg hdue, foldl_fireIfDue ks _ hks, 
        List.filter_cons_of_neg (p := fun k : SlotNo => s.slots[k].fireDueBy s.now) hdue]

/-- The slots that are due at a time, the lowest first. -/
def State.dueSlots (s : State) : List SlotNo :=
  (List.finRange 16).filter fun k => s.slots[k].fireDueBy s.now

theorem State.mem_dueSlots {k : SlotNo} :
    k ∈ s.dueSlots ↔ ∃ time, s.slots[k].phase = .pending time ∧ time ≤ s.now := by
  rw [State.dueSlots, List.mem_filter, Slot.fireDueBy_iff]
  exact and_iff_right (List.mem_finRange k)

theorem State.dueSlots_eq {due : List SlotNo} (hsub : due.Sublist (List.finRange 16))
    (hmem : ∀ k : SlotNo, k ∈ due ↔ ∃ time, s.slots[k].phase = .pending time ∧ time ≤ s.now) :
    s.dueSlots = due := by
  have hlt := (List.sortedLT_finRange 16).pairwise
  exact (hlt.filter _).eq_of_mem_iff (hlt.sublist hsub) fun k => State.mem_dueSlots.trans (hmem k).symm

theorem foldl_fire_now : ∀ (ks : List SlotNo) (s : State), (ks.foldl State.fire s).now = s.now
  | [], _ => rfl
  | k :: ks, s => by rw [List.foldl_cons, foldl_fire_now ks, State.fire_now]

theorem exec_fireTime (hh : s.held = false) {t : State} (ht : t = s.dueSlots.foldl State.fire s) :
    exec .fireTime s = .next { t with link := t.link.arbitrate s.now } := by
  refine congrArg Host.Outcome.next ?_
  have hfold : (List.finRange 16).foldl State.fireIfDue s = t :=
    (foldl_fireIfDue _ s (List.nodup_finRange 16)).trans ht.symm
  have hnow : t.now = s.now := by rw [ht, foldl_fire_now]
  rw [State.event_running hh, hfold]
  exact congrArg (fun now => { t with link := t.link.arbitrate now }) hnow

/-- After slots have fired, each once, each of them has fired and no other has changed. -/
theorem foldl_fire_slot (k : SlotNo) : ∀ (ks : List SlotNo) (s : State), ks.Nodup →
    (ks.foldl State.fire s).slots[k] = if k ∈ ks then (s.fire k).slots[k] else s.slots[k]
  | [], _, _ => rfl
  | j :: ks, s, hnodup => by
    obtain ⟨hj, hks⟩ := List.nodup_cons.mp hnodup
    rw [List.foldl_cons, foldl_fire_slot k ks _ hks]
    by_cases hkj : k = j
    · rw [hkj, if_neg hj, if_pos List.mem_cons_self]
    · have hsame : (s.fire j).slots[k] = s.slots[k] := State.fire_other_slot s j k hkj
      have hmem : k ∈ j :: ks ↔ k ∈ ks := List.mem_cons.trans (or_iff_right hkj)
      have hfired : ((s.fire j).fire k).slots[k] = (s.fire k).slots[k] := by
        cases hd : s.slots[k].definition with
        | none => rw [State.fire_undefined hd, State.fire_undefined (by rw [hsame, hd]), hsame]
        | some d =>
          rw [State.fire_own_slot s k d hd, State.fire_own_slot (s.fire j) k d (by rw [hsame, hd]), hsame,
            State.fire_now]
      simp only [hmem, hfired, hsame]

theorem Slot.holdoffOverBy_iff (slot : Slot) (now : Nat) :
    slot.holdoffOverBy now = true ↔ ∃ time, slot.phase = .holdoff time ∧ time ≤ now := by
  cases h : slot.phase <;> simp [Slot.holdoffOverBy, h]

/-- Settles O42, from the slots that are due, each of which fires once. -/
theorem triggerTimes : Obligations.TriggerTimes := by
  intro s hh hs
  have hnodup : s.dueSlots.Nodup := (List.nodup_finRange 16).filter _
  refine ⟨⟨_, exec_fireTime hh rfl, fun k => ?slots⟩, fun due t hsub hmem ht => ?fires,
    fun k time hphase htime hothers => ?one, fun hnone => ?none, fun k time hphase htime => ?ended,
    fun k hnot => ?notEnded⟩
  case slots =>
    refine (foldl_fire_slot k _ s hnodup).trans ?_
    cases hphase : s.slots[k].phase with
    | idle | armed | holdoff time =>
      exact if_neg fun hk => by
        obtain ⟨u, hu, -⟩ := State.mem_dueSlots.mp hk
        rw [hphase] at hu
        cases hu
    | pending time =>
      cases hd : s.slots[k].definition with
      | none => rw [State.fire_undefined hd, ite_self]
      | some d =>
        rw [State.fire_own_slot s k d hd]
        by_cases htime : time ≤ s.now
        · exact (if_pos (State.mem_dueSlots.mpr ⟨time, hphase, htime⟩)).trans (if_pos htime).symm
        · refine (if_neg fun hk => htime ?_).trans (if_neg htime).symm
          obtain ⟨u, hu, hle⟩ := State.mem_dueSlots.mp hk
          rw [hphase] at hu
          cases hu
          exact hle
  case fires =>
    exact exec_fireTime hh (by rw [State.dueSlots_eq hsub hmem, ht])
  case one =>
    have hsingle : s.dueSlots = [k] := by
      refine State.dueSlots_eq (List.singleton_sublist.mpr (List.mem_finRange k)) fun j => ?_
      rw [List.mem_singleton]
      refine ⟨fun h => h ▸ ⟨time, hphase, htime⟩, fun ⟨u, hu, hle⟩ => ?_⟩
      exact Decidable.byContradiction fun hj => absurd hle (Nat.not_le.mpr (hothers j hj u hu))
    exact exec_fireTime hh (by rw [hsingle]; rfl)
  case none =>
    have hempty : s.dueSlots = [] := List.eq_nil_iff_forall_not_mem.mpr fun k hk => by
      obtain ⟨u, hu, hle⟩ := State.mem_dueSlots.mp hk
      exact absurd hle (Nat.not_le.mpr (hnone k u hu))
    rw [exec_fireTime hh (t := s) (by rw [hempty]; rfl)]
    exact congrArg Host.Outcome.next (State.arbitrate_settled hs)
  case ended =>
    refine congrArg Host.Outcome.next ?_
    rw [State.event_running hh, if_pos ((Slot.holdoffOverBy_iff _ _).mpr ⟨time, hphase, htime⟩)]
    exact State.arbitrate_settled hs
  case notEnded =>
    refine congrArg Host.Outcome.next (State.event_same hs (if_neg fun h => ?_))
    obtain ⟨time, hphase, hle⟩ := (Slot.holdoffOverBy_iff _ _).mp h
    exact absurd hle (Nat.not_le.mpr (hnot time hphase))

end Sys2Proof.Machine
end


/-! ### Trigger requests (R111, R112, R122 to R126) -/

section
set_option Elab.async false
namespace Sys2Proof.Machine

variable {s : State} {k : SlotNo}

/-! #### DEFINE TRIGGER -/

theorem TriggerDef.names_iff (d : TriggerDef) (i : LineNo) : d.names i = true ↔ d.watched = i ∨
    (∃ t ∈ d.targets, t.line = i) ∨ ∃ q ∈ d.qualifier, q.line = i := by
  unfold TriggerDef.names
  cases d.qualifier <;> simp [or_assoc]

theorem Slot.names_iff (slot : Slot) (i : LineNo) :
    slot.names i = true ↔ ∃ old ∈ slot.definition, old.names i = true := by
  unfold Slot.names
  cases slot.definition <;> simp

theorem State.badWatch_eq (s : State) (d : TriggerDef) : s.badWatch d =
    if s.lines[d.watched].isSensed = false then some d.watched
    else (d.qualifier.filter fun q => !s.lines[q.line].isSensed).map (·.line) := by
  unfold State.badWatch
  cases s.lines[d.watched].isSensed with
  | false => rfl
  | true =>
    rw [if_neg (by decide), if_neg (by decide)]
    cases d.qualifier with
    | none => rfl
    | some q =>
      rw [Option.filter_some]
      dsimp only
      cases s.lines[q.line].isSensed <;> rfl

/-- The first failing check of DEFINE TRIGGER, with the code of its status. -/
theorem State.defineRefusal_eq (s : State) (k : SlotNo) (d : TriggerDef) :
    (s.defineRefusal k d).map refusalBytes = s.definitionRefusal k d := by
  have htarget : s.firstNotOutput (d.targets.map (·.line)) =
      (d.targets.find? fun t => !s.lines[t.line].isOutput).map (·.line) := by
    rw [State.firstNotOutput, List.find?_map]
    rfl
  unfold State.defineRefusal State.definitionRefusal
  by_cases hrunning : s.slots[k].running = true
  · rw [if_pos hrunning, if_pos hrunning]; rfl
  rw [if_neg hrunning, if_neg hrunning, htarget, State.badWatch_eq]
  cases d.targets.find? fun t => !s.lines[t.line].isOutput with
  | some t => rfl
  | none =>
    dsimp only [Option.map_none]
    by_cases hwatched : s.lines[d.watched].isSensed = false
    · rw [if_pos hwatched, if_pos hwatched]; rfl
    rw [if_neg hwatched, if_neg hwatched]
    cases d.qualifier.filter fun q => !s.lines[q.line].isSensed <;> rfl

theorem State.definitionRefusal_received (s : State) (f : Frame) (k : SlotNo) (d : TriggerDef) :
    (s.received f).definitionRefusal k d = s.definitionRefusal k d := by
  simp only [State.definitionRefusal, State.received_slots, State.received_lines]

theorem State.mapLines_mapLines (s : State) (f g : LineNo → Line → Line) :
    (s.mapLines f).mapLines g = s.mapLines fun i l => g i (f i l) := by
  simp [State.mapLines]

/-- The references of an old definition exchanged for those of a new one. -/
theorem State.exchangeRefs_eq (s : State) (old new : LineNo → Bool) :
    (s.dropRefs old).addRefs new = { s with lines := Vector.ofFn fun i =>
      { s.lines[i] with
        refs := s.lines[i].refs - (if old i then 1 else 0) + (if new i then 1 else 0) } } := by
  rw [State.addRefs, State.dropRefs, State.mapLines_mapLines]
  refine State.mapLines_eq fun i => ?_
  cases old i <;> cases new i <;> rfl

/-- A trigger request that is taken: the slots and the lines it leaves, and nothing else changed. -/
theorem exec_slots {c : Instr} {f : Frame} {own : List Byte → State → Answer} {content : List Byte}
    {slots : Vector Slot 16} {lines : Vector Line 40} (hexec : exec c s = .next (s.serve f own))
    (h : s.passes c f)
    (ho : own f.body (s.received f) = .done .ok content
      { s.received f with slots := slots, lines := lines }) :
    exec c s = .next { s.serving f 0x00 content with slots := slots, lines := lines } := by
  rw [exec_done hexec h ho rfl (State.received_now ..)]
  rfl

/-- Settles O38, by the first check that fails. -/
theorem defineTrigger : Obligations.DefineTrigger := by
  refine ⟨fun d slot i => ⟨TriggerDef.names_iff d i, Slot.names_iff slot i⟩, fun s seq body hpass =>
    ⟨fun hparse => ?bad, fun k d hparse => ⟨fun status addition hrefusal => ?refused, fun hnone => ?taken⟩⟩⟩
  case bad =>
    refine exec_refused (own := answerDefineTrigger) (st := .badValue) rfl hpass ?_
    rw [answerDefineTrigger, hparse, withOperands]
  all_goals
    have hrefusal := State.defineRefusal_eq (s.received ⟨seq, 0x40, body⟩) k d
    rw [State.definitionRefusal_received] at hrefusal
  case refused h =>
    obtain ⟨⟨st, extra⟩, hst, hbytes⟩ := Option.map_eq_some_iff.mp (hrefusal.trans h)
    cases hbytes
    refine exec_refused (own := answerDefineTrigger) rfl hpass ?_
    rw [answerDefineTrigger, hparse, withOperands]
    simp only [hst]
  case taken =>
    have hpassed := Option.map_eq_none_iff.mp (hrefusal.trans hnone)
    have hslot : ((s.received ⟨seq, 0x40, body⟩).define k d).slots[k] = .defined d := by
      rw [State.define, State.setSlot_slot, if_pos rfl]
    refine exec_slots (own := answerDefineTrigger) rfl hpass ?_
    rw [answerDefineTrigger, hparse, withOperands]
    simp only [hpassed, hslot]
    rw [State.define, State.exchangeRefs_eq, State.received_lines, State.received_slots]
    rfl

/-! #### ARM, DISARM, DELETE and READ TRIGGER -/

theorem slotOf?_byte {number : Byte} (hk : k.val = number.toNat) : slotOf? number.toNat = some k := by
  rw [← hk]
  exact dif_pos k.isLt

theorem slotOf?_none {n : Nat} (h : 16 ≤ n) : slotOf? n = none := dif_neg (Nat.not_lt.mpr h)

theorem flagOf?_byte {flag : Byte} (h : flag.toNat ≤ 1) :
    flagOf? flag.toNat = some (decide (flag = 1)) := by
  have hone : flag = 1 ↔ flag.toNat = 1 := by rw [← BitVec.toNat_inj]; rfl
  simp only [hone]
  generalize flag.toNat = n at h
  match n, h with
  | 0, _ | 1, _ => rfl

theorem parseSlotFlag_eq {number flag : Byte} (hk : k.val = number.toNat) (hflag : flag.toNat ≤ 1) :
    parseSlotFlag [number, flag] = some (k, decide (flag = 1)) := by
  unfold parseSlotFlag
  rw [show slotOf? (byteAt [number, flag] 0) = some k from slotOf?_byte hk,
    show flagOf? (byteAt [number, flag] 1) = some (decide (flag = 1)) from flagOf?_byte hflag]

theorem parseSlotFlag_none {number flag : Byte} (h : 16 ≤ number.toNat ∨ 2 ≤ flag.toNat) :
    parseSlotFlag [number, flag] = none := by
  unfold parseSlotFlag
  rcases h with h | h
  · rw [show slotOf? (byteAt [number, flag] 0) = none from slotOf?_none h]
  · rw [show flagOf? (byteAt [number, flag] 1) = none from flagOf?_none h]
    cases slotOf? (byteAt [number, flag] 0) <;> rfl

theorem parseSlot_eq {number : Byte} (hk : k.val = number.toNat) : parseSlot [number] = some k :=
  slotOf?_byte hk

theorem parseSlot_none {number : Byte} (h : 16 ≤ number.toNat) : parseSlot [number] = none :=
  slotOf?_none h

/-- The codes of the slot states, and the running ones. -/
theorem Slot.code_running (slot : Slot) :
    (slot.definition = none → slot.code = 0 ∧ slot.running = false) ∧
    (slot.definition ≠ none →
      (slot.phase = .idle → slot.code = 1 ∧ slot.running = false) ∧
      (slot.phase = .armed → slot.code = 2 ∧ slot.running = true) ∧
      (∀ t, slot.phase = .pending t → slot.code = 3 ∧ slot.running = true) ∧
      (∀ t, slot.phase = .holdoff t → slot.code = 4 ∧ slot.running = true)) := by
  unfold Slot.code Slot.running
  cases slot.definition <;> cases slot.phase <;> simp

theorem Slot.arm_defined {slot : Slot} (hd : slot.definition ≠ none) (hp : slot.phase = .idle) :
    slot.arm = { slot with phase := .armed } := by
  unfold Slot.arm
  cases h : slot.definition with
  | none => exact absurd h hd
  | some d => rw [hp]

theorem Slot.arm_other {slot : Slot} (h : slot.definition = none ∨ slot.phase ≠ .idle) : slot.arm = slot := by
  unfold Slot.arm
  cases hd : slot.definition with
  | none => rfl
  | some d =>
    cases hp : slot.phase with
    | idle => exact absurd hp (h.resolve_left (by rw [hd]; exact Option.some_ne_none d))
    | armed | pending | holdoff => rfl

theorem State.setSlot_self (s : State) (k : SlotNo) : s.setSlot k s.slots[k] = s := by
  simp [State.setSlot]

theorem Line.holds_fromSlot (l : Line) (k : SlotNo) :
    l.holds .trigger (fromOrigin (.slot k)) = l.triggeredBy k := by
  unfold Line.holds Line.triggeredBy ClaimSet.get
  cases l.claims.trigger <;> rfl

/-- The release of the claims of a slot, in the words of the statement. -/
theorem State.releaseSlot_eq (s : State) (flag : Bool) (k : SlotNo) :
    s.releaseIf flag .trigger (fromOrigin (.slot k)) = s.releasingSlot flag k := by
  unfold State.releaseIf State.releasingSlot
  cases flag with
  | false => simp
  | true =>
    rw [if_pos rfl, State.dropClaims, State.mapLines_eq fun i => by rw [Line.holds_fromSlot]]
    rfl

theorem State.releasedSlot_eq (s : State) (flag : Bool) (k : SlotNo) :
    s.releasedIf flag .trigger (fromOrigin (.slot k)) = if flag then s.slotClaims k else 0 := by
  rw [State.releasedIf, State.countClaims, countP_lines, State.slotClaims]
  simp only [Line.holds_fromSlot]

theorem State.releasingSlot_received (s : State) (f : Frame) (flag : Bool) (k : SlotNo) :
    ((s.received f).releasingSlot flag k).lines = (s.releasingSlot flag k).lines := by
  simp only [State.releasingSlot, State.received_lines]

/-- A line without its TRIGGER claim, when that is a slot's and is to go. -/
def Line.releasingSlot (l : Line) (flag : Bool) (k : SlotNo) : Line :=
  if flag && l.triggeredBy k then { l with claims := { l.claims with trigger := none } } else l

theorem State.releasingSlot_eq (s : State) (flag : Bool) (k : SlotNo) :
    s.releasingSlot flag k = s.mapLines fun _ l => l.releasingSlot flag k := by
  simp only [State.releasingSlot, State.mapLines, Line.releasingSlot]

theorem Line.releasingSlot_refs (l : Line) (flag : Bool) (k : SlotNo) :
    (l.releasingSlot flag k).refs = l.refs := by
  unfold Line.releasingSlot
  split <;> rfl

/-- The part without the claims of a slot and without the references that it held. -/
theorem State.releasingSlot_dropRefs (s : State) (flag : Bool) (k : SlotNo) (names : LineNo → Bool) :
    (s.releasingSlot flag k).dropRefs names = { s with lines := Vector.ofFn fun i =>
      { (s.releasingSlot flag k).lines[i] with
        refs := s.lines[i].refs - (if names i then 1 else 0) } } := by
  rw [State.releasingSlot_eq, State.dropRefs, State.mapLines_mapLines]
  refine State.mapLines_eq fun i => ?_
  rw [State.mapLines_line, Line.releasingSlot_refs]
  cases names i with
  | true => rfl
  | false =>
    rw [if_neg Bool.false_ne_true, if_neg Bool.false_ne_true, Nat.sub_zero,
      ← Line.releasingSlot_refs s.lines[i] flag k]

theorem State.slotClaims_received (s : State) (f : Frame) (k : SlotNo) :
    (s.received f).slotClaims k = s.slotClaims k := by
  simp only [State.slotClaims, State.received_lines]

theorem Slot.releases_eq (slot : Slot) (flag : Bool) :
    slot.releases flag = decide (flag = true ∧ slot.definition ≠ none) := by
  unfold Slot.releases
  cases slot.definition <;> cases flag <;> rfl

theorem Slot.standDown_code (slot : Slot) :
    slot.standDown.code = if slot.definition = none then 0 else 1 := by
  unfold Slot.standDown Slot.code
  dsimp only
  cases slot.definition <;> rfl

/-- The reply of READ TRIGGER, as the statement lays it out. -/
theorem readTriggerContent_eq (k : SlotNo) (slot : Slot) (now : Nat) : readTriggerContent k slot now =
    slot.code :: (match slot.definition with
        | some d => d.bytes k
        | none => List.replicate 29 (0 : Byte)) ++
      timeBytes (match slot.phase with
        | .pending t => t
        | .holdoff t => t
        | _ => 0) ++
      leBytes 4 slot.firings.toNat ++ leBytes 2 slot.suppressed ++ leBytes 2 slot.unqualified ++
      timeBytes now := by
  unfold readTriggerContent Slot.timer
  cases slot.definition <;> cases slot.phase <;> rfl

/-- Settles O39, by the state of the slot and by the flag. -/
theorem triggerSlotRequests : Obligations.TriggerSlotRequests := by
  refine ⟨Slot.code_running,
    fun s seq number hpass => ⟨fun hbad => ?badArm, fun k hk => ⟨fun hd hp => ?arm, fun hother => ?notArm⟩⟩,
    fun s seq number flag hpass => ⟨fun hbad => ?badDisarm, fun k release hk hflag hrelease => ?disarm⟩,
    fun s seq number hpass => ⟨fun hbad => ?badDelete, fun k release hk hrelease => ?delete⟩,
    fun s seq number flag hpass => ⟨fun hbad => ?badRead, fun k hk hflag => ?read⟩⟩
  case badArm =>
    refine exec_refused (own := answerArmTrigger) (st := .badValue) rfl hpass ?_
    rw [answerArmTrigger, parseSlot_none hbad, withOperands]
  case arm =>
    refine exec_slots (own := answerArmTrigger)
      (lines := (s.received ⟨seq, 0x41, [number]⟩).lines) rfl hpass ?_
    have hcode := ((Slot.code_running ({ s.slots[k] with phase := .armed } : Slot)).2 hd).2.1 rfl
    rw [answerArmTrigger, parseSlot_eq hk, withOperands, State.received_slots, Slot.arm_defined hd hp,
      hcode.1, State.setSlot, State.received_slots]
  case notArm =>
    refine exec_read (own := answerArmTrigger) (st := .ok) rfl hpass ?_
    have hself := (s.received ⟨seq, 0x41, [number]⟩).setSlot_self k
    rw [State.received_slots] at hself
    rw [answerArmTrigger, parseSlot_eq hk, withOperands, State.received_slots, Slot.arm_other hother, hself]
  case badDisarm =>
    refine exec_refused (own := answerDisarmTrigger) (st := .badValue) rfl hpass ?_
    rw [answerDisarmTrigger, parseSlotFlag_none hbad, withOperands]
  case disarm =>
    have hflagged : s.slots[k].releases (decide (flag = 1)) = release := by
      rw [Slot.releases_eq, hrelease]
      simp only [decide_eq_true_eq]
    refine exec_slots (own := answerDisarmTrigger) rfl hpass ?_
    rw [answerDisarmTrigger, parseSlotFlag_eq hk hflag, withOperands]
    dsimp only
    rw [State.received_slots, hflagged, Slot.standDown_code, State.releasedSlot_eq, State.releaseSlot_eq,
      State.slotClaims_received, ← State.releasingSlot_received s ⟨seq, 0x42, [number, flag]⟩]
    simp only [State.setSlot, State.releasingSlot, State.received_slots]
    rfl
  case badDelete =>
    refine exec_refused (own := answerDeleteTrigger) (st := .badValue) rfl hpass ?_
    rw [answerDeleteTrigger, parseSlot_none hbad, withOperands]
  case delete =>
    have hflagged : s.slots[k].releases true = release := by
      rw [Slot.releases_eq, hrelease]
      simp only [true_and]
    refine exec_slots (own := answerDeleteTrigger) rfl hpass ?_
    rw [answerDeleteTrigger, parseSlot_eq hk, withOperands, State.delete]
    rw [State.received_slots, hflagged, State.releasedSlot_eq, State.releaseSlot_eq,
      State.slotClaims_received, ← State.releasingSlot_received s ⟨seq, 0x43, [number]⟩,
      State.releasingSlot_dropRefs, State.setSlot, State.received_slots, State.received_lines]
    rfl
  case badRead =>
    refine exec_refused (own := answerReadTrigger) (st := .badValue) rfl hpass ?_
    rw [answerReadTrigger, parseSlotFlag_none hbad, withOperands]
  case read =>
    refine exec_slots (own := answerReadTrigger)
      (lines := (s.received ⟨seq, 0x44, [number, flag]⟩).lines) rfl hpass ?_
    rw [answerReadTrigger, parseSlotFlag_eq hk hflag, withOperands]
    refine congr (congrArg (Answer.done .ok) ?_) ?_
    · rw [State.received_now, State.received_slots]
      exact readTriggerContent_eq ..
    by_cases hclear : flag = 1
    · rw [if_pos (decide_eq_true hclear), if_pos hclear, State.setSlot, State.received_slots]
      rfl
    · rw [if_neg (mt of_decide_eq_true hclear), if_neg hclear,
        ← State.received_slots s ⟨seq, 0x44, [number, flag]⟩]

end Sys2Proof.Machine
end


/-! ### Staging and the commit of a profile (R151, R156 to R162) -/

section
set_option Elab.async false
namespace Sys2Proof.Machine

variable {s : State} {f : Frame}

/-! #### The refusals that the profile requests share -/

theorem profileOf?_byte {p : ProfileNo} {number : Byte} (hp : p.val = number.toNat) :
    profileOf? number.toNat = some p := by
  rw [← hp]
  exact dif_pos p.isLt

theorem profileOf?_none {n : Nat} (h : 4 ≤ n) : profileOf? n = none := dif_neg (Nat.not_lt.mpr h)

theorem parseProfileSlot_eq {p : ProfileNo} {number : Byte} (hp : p.val = number.toNat) :
    parseProfileSlot [number] = some p := profileOf?_byte hp

theorem parseProfileSlot_none {number : Byte} (h : 4 ≤ number.toNat) : parseProfileSlot [number] = none :=
  profileOf?_none h

theorem unlessBusy_busy {own : Answer} (h : s.store.operation ≠ .none) :
    unlessBusy s own = .refuse .storeBusy [] := by
  unfold unlessBusy
  cases hop : s.store.operation with
  | none => exact absurd hop h
  | committing | loading | erasing | bootWrite => rfl

theorem unlessBusy_idle {own : Answer} (h : s.store.operation = .none) : unlessBusy s own = own := by
  unfold unlessBusy
  rw [h]
  rfl

theorem unlessBusy_received_busy {own : Answer} (h : s.store.operation ≠ .none) :
    unlessBusy (s.received f) own = .refuse .storeBusy [] :=
  unlessBusy_busy (by rwa [State.received_store])

theorem unlessBusy_received_idle {own : Answer} (h : s.store.operation = .none) :
    unlessBusy (s.received f) own = own := unlessBusy_idle (by rwa [State.received_store])

theorem whenStaging_staging {own : ProfileNo → List ProfileRecord → Answer} {p : ProfileNo}
    {rs : List ProfileRecord} (h : s.store.staging = .staging p rs) :
    whenStaging (s.received f) own = own p rs := by
  unfold whenStaging
  rw [State.received_store, h]

theorem whenStaging_other {own : ProfileNo → List ProfileRecord → Answer}
    (h : ∀ p rs, s.store.staging ≠ .staging p rs) :
    whenStaging (s.received f) own = .refuse .notStaging [] := by
  unfold whenStaging
  rw [State.received_store]
  cases hs : s.store.staging with
  | staging p rs => exact absurd hs (h p rs)
  | idle | committing => rfl

/-- A profile request that is taken: the store it leaves, the free values drawn, and nothing else changed. -/
theorem exec_store {c : Instr} {own : List Byte → State → Answer} {content : List Byte} {st : Status}
    {t : State} {store store' : Store} {ix ix' : Nat} (hexec : exec c s = .next (s.serve f own))
    (h : s.passes c f) (ho : own f.body (s.received f) = .done st content t)
    (ht : t = { s.received f with store := store', freeIx := ix' }) (hstore : store' = store)
    (hix : ix' = ix) :
    exec c s = .next { s.serving f st.code content with store := store, freeIx := ix } := by
  subst ht hstore hix
  rw [exec_done hexec h ho rfl (State.received_now ..)]
  rfl

/-- A profile request that changes the staging list alone. -/
theorem exec_staging {c : Instr} {own : List Byte → State → Answer} {content : List Byte}
    {staging : Staging} (hexec : exec c s = .next (s.serve f own)) (h : s.passes c f)
    (ho : own f.body (s.received f) = .done .ok content ((s.received f).withStaging staging)) :
    exec c s = .next { s.serving f 0x00 content with store := { s.store with staging := staging } } := by
  exact exec_store (st := .ok) hexec h ho rfl (by rw [State.received_store]) (rfl (a := (s.received f).freeIx))

/-! #### BEGIN PROFILE, APPEND RECORD, CAPTURE and ABANDON PROFILE -/

theorem Slot.running_defined {slot : Slot} {d : TriggerDef} (hd : slot.definition = some d) :
    slot.running = decide (slot.phase ≠ .idle) := by
  unfold Slot.running
  rw [hd]
  cases slot.phase <;> rfl

/-- The live state as CAPTURE records it, in the words of the statement. -/
theorem State.captureRecords_eq (s : State) : s.captureRecords = s.captured := by
  unfold State.captureRecords State.captured
  refine congr (congrArg HAppend.hAppend (congr (congrArg HAppend.hAppend (congrArg (· ++ _) ?banks)) ?slots))
    ?label
  case banks =>
    refine List.filterMap_congr fun bank _ => ?_
    unfold State.captureBank
    generalize (List.finRange 8).map _ = configs
    have hany : (configs.any fun c => decide (c.mode ≠ .park)) =
        !(configs.all fun c => decide (c.mode = .park)) := by
      rw [List.not_all_eq_any_not]
      simp only [decide_not]
    dsimp only
    rw [hany]
    cases configs.all fun c => decide (c.mode = .park) <;> rfl
  case slots =>
    refine List.filterMap_congr fun k _ => ?_
    unfold State.captureSlot
    cases hd : s.slots[k].definition with
    | none => rfl
    | some d => rw [Option.map_some, Slot.running_defined hd]
  case label => cases s.store.label <;> rfl

theorem State.captured_received (s : State) (f : Frame) : (s.received f).captured = s.captured := by
  simp only [State.captured, State.received_lines, State.received_slots, State.received_store,
    State.received_settleTimes, State.received_journal]

/-- Settles O43, by the operation in flight and the staging state. -/
theorem stagingRequests : Obligations.StagingRequests := by
  refine ⟨fun s seq number hpass => ⟨fun hbad => ?badBegin, fun p hp =>
      ⟨fun hbusy => ?busyBegin, fun hidle hopen => ?openBegin, fun hidle hstaging => ?begins⟩⟩,
    fun s seq body hpass => ⟨fun hparse => ?badAppend, fun r hparse =>
      ⟨fun hbusy => ?busyAppend, fun hidle hnot => ?notAppend, fun p rs hidle hstaging =>
        ⟨fun hfull => ?full, fun hroom => ?append⟩⟩⟩,
    fun s seq hpass => ⟨fun hbusy => ?busyCapture, fun hidle hnot => ?notCapture,
      fun p rs hidle hstaging => ?capture⟩,
    fun s seq hpass => ⟨fun hbusy => ?busyAbandon, fun hidle hnot => ?notAbandon,
      fun p rs hidle hstaging => ?abandon⟩⟩
  case badBegin =>
    refine exec_refused (own := answerBeginProfile) (st := .badValue) rfl hpass ?_
    rw [answerBeginProfile, parseProfileSlot_none hbad, withOperands]
  case busyBegin =>
    refine exec_refused (own := answerBeginProfile) (st := .storeBusy) rfl hpass ?_
    rw [answerBeginProfile, parseProfileSlot_eq hp, withOperands, unlessBusy_received_busy hbusy]
  case openBegin =>
    refine exec_refused (own := answerBeginProfile) (st := .stageOpen) rfl hpass ?_
    rw [answerBeginProfile, parseProfileSlot_eq hp, withOperands, unlessBusy_received_idle hidle,
      State.received_store]
    cases hs : s.store.staging with
    | idle => exact absurd hs hopen
    | staging | committing => rfl
  case begins =>
    refine exec_staging (own := answerBeginProfile) rfl hpass ?_
    rw [answerBeginProfile, parseProfileSlot_eq hp, withOperands, unlessBusy_received_idle hidle,
      State.received_store, hstaging]
  case badAppend =>
    refine exec_refused (own := answerAppendRecord) (st := .badValue) rfl hpass ?_
    rw [answerAppendRecord, hparse, withOperands]
  case busyAppend =>
    refine exec_refused (own := answerAppendRecord) (st := .storeBusy) rfl hpass ?_
    rw [answerAppendRecord, hparse, withOperands, unlessBusy_received_busy hbusy]
  case notAppend =>
    refine exec_refused (own := answerAppendRecord) (st := .notStaging) rfl hpass ?_
    rw [answerAppendRecord, hparse, withOperands, unlessBusy_received_idle hidle, whenStaging_other hnot]
  case full =>
    refine exec_refused (own := answerAppendRecord) (st := .profileFull) rfl hpass ?_
    rw [answerAppendRecord, hparse, withOperands, unlessBusy_received_idle hidle,
      whenStaging_staging hstaging, if_pos hfull]
  case append =>
    refine exec_staging (own := answerAppendRecord) rfl hpass ?_
    rw [answerAppendRecord, hparse, withOperands, unlessBusy_received_idle hidle,
      whenStaging_staging hstaging, if_neg (Nat.not_le.mpr hroom)]
  case busyCapture =>
    exact exec_refused (own := answerCapture) (st := .storeBusy) rfl hpass (unlessBusy_received_busy hbusy)
  case notCapture =>
    refine exec_refused (own := answerCapture) (st := .notStaging) rfl hpass ?_
    rw [answerCapture, unlessBusy_received_idle hidle, whenStaging_other hnot]
  case capture =>
    refine exec_staging (own := answerCapture) rfl hpass ?_
    rw [answerCapture, unlessBusy_received_idle hidle, whenStaging_staging hstaging,
      State.captureRecords_eq, State.captured_received]
  case busyAbandon =>
    exact exec_refused (own := answerAbandonProfile) (st := .storeBusy) rfl hpass
      (unlessBusy_received_busy hbusy)
  case notAbandon =>
    refine exec_refused (own := answerAbandonProfile) (st := .notStaging) rfl hpass ?_
    rw [answerAbandonProfile, unlessBusy_received_idle hidle, whenStaging_other hnot]
  case abandon =>
    refine exec_staging (own := answerAbandonProfile) rfl hpass ?_
    rw [answerAbandonProfile, unlessBusy_received_idle hidle, whenStaging_staging hstaging]

/-! #### Whole-profile validation -/

theorem configOf_isSome {first : LineNo} {configs : List LineConfig} {i : LineNo} :
    ((ProfileRecord.lines first configs).configOf i).isSome = true ↔
      first.val ≤ i.val ∧ i.val < first.val + configs.length := by
  unfold ProfileRecord.configOf
  dsimp only
  by_cases h : first.val ≤ i.val
  · rw [if_pos h, Option.isSome_iff_ne_none, ne_eq, List.getElem?_eq_none_iff]
    omega
  · rw [if_neg h]
    exact ⟨fun h => absurd h Bool.false_ne_true, fun ⟨hle, _⟩ => absurd hle h⟩

theorem profileConfig_isSome {rs : List ProfileRecord} {i : LineNo} :
    (profileConfig rs i).isSome = true ↔ ∃ first configs, .lines first configs ∈ rs ∧
      first.val ≤ i.val ∧ i.val < first.val + configs.length := by
  rw [profileConfig, List.findSome?_isSome_iff]
  constructor
  · rintro ⟨r, hr, h⟩
    cases r with
    | lines first configs => exact ⟨first, configs, hr, configOf_isSome.mp h⟩
    | filters | journal | trigger | label => exact absurd h Bool.false_ne_true
  · rintro ⟨first, configs, hr, h⟩
    exact ⟨_, hr, configOf_isSome.mpr h⟩

theorem profileTrigger_isSome {rs : List ProfileRecord} {k : SlotNo} :
    (profileTrigger rs k).isSome = true ↔ ∃ d arm, .trigger k d arm ∈ rs := by
  rw [profileTrigger, List.findSome?_isSome_iff]
  constructor
  · rintro ⟨r, hr, h⟩
    cases r with
    | trigger j d arm =>
      dsimp only at h
      split at h
      · next hj => exact ⟨d, arm, hj ▸ hr⟩
      · exact absurd h Bool.false_ne_true
    | lines | filters | journal | label => exact absurd h Bool.false_ne_true
  · rintro ⟨d, arm, hr⟩
    exact ⟨_, hr, by dsimp only; rw [if_pos rfl]; rfl⟩

theorem Mode.isOutput_eq_false {m : Mode} : m.isOutput = false ↔ m = .park ∨ m = .input := by
  cases m <;> decide

theorem Mode.isSensed_eq_false {m : Mode} : m.isSensed = false ↔ m = .park ∨ m = .drive := by
  cases m <;> decide

theorem TriggerDef.fits_eq_false {d : TriggerDef} {modeOf : LineNo → Mode} : d.fits modeOf = false ↔
    (∃ t ∈ d.targets, modeOf t.line = .park ∨ modeOf t.line = .input) ∨
      (modeOf d.watched = .park ∨ modeOf d.watched = .drive) ∨
      ∃ q ∈ d.qualifier, modeOf q.line = .park ∨ modeOf q.line = .drive := by
  unfold TriggerDef.fits
  rw [Bool.and_eq_false_iff, Bool.and_eq_false_iff, or_assoc, List.all_eq_false,
    Mode.isSensed_eq_false]
  simp only [Bool.not_eq_true, Mode.isOutput_eq_false]
  cases d.qualifier with
  | none => simp
  | some q => simp [Mode.isSensed_eq_false]

theorem bad_trigger {all earlier : List ProfileRecord} {k : SlotNo} {d : TriggerDef} {arm : Bool} :
    (ProfileRecord.trigger k d arm).bad all earlier = true ↔
      (∃ other armed, .trigger k other armed ∈ earlier) ∨ d.fits (profileMode all) = false := by
  rw [← profileTrigger_isSome, ← Bool.not_eq_true', ← Bool.or_eq_true]
  rfl

theorem bad_lines {all earlier : List ProfileRecord} {first : LineNo} {configs : List LineConfig} :
    (ProfileRecord.lines first configs).bad all earlier = true ↔
      ∃ (i other : LineNo) (others : List LineConfig), .lines other others ∈ earlier ∧
        first.val ≤ i.val ∧ i.val < first.val + configs.length ∧
        other.val ≤ i.val ∧ i.val < other.val + others.length := by
  simp only [ProfileRecord.bad, List.any_eq_true, Bool.and_eq_true, configOf_isSome, profileConfig_isSome]
  constructor
  · rintro ⟨i, -, ⟨hfirst, hlast⟩, other, others, hmem, hother⟩
    exact ⟨i, other, others, hmem, hfirst, hlast, hother⟩
  · rintro ⟨i, other, others, hmem, hfirst, hlast, hother⟩
    exact ⟨i, List.mem_finRange i, ⟨hfirst, hlast⟩, other, others, hmem, hother⟩

/-- A record of a kind of which a profile has one at most is bad after another of its kind. -/
theorem any_sameSingleKind {α : Type} {earlier : List ProfileRecord} {r : ProfileRecord}
    {of : α → ProfileRecord} (h : ∀ x, r.sameSingleKind x = true ↔ ∃ a, of a = x) :
    earlier.any r.sameSingleKind = true ↔ ∃ a, of a ∈ earlier := by
  rw [List.any_eq_true]
  constructor
  · rintro ⟨x, hx, hsame⟩
    obtain ⟨a, rfl⟩ := (h x).mp hsame
    exact ⟨a, hx⟩
  · rintro ⟨a, ha⟩
    exact ⟨_, ha, (h _).mpr ⟨a, rfl⟩⟩

/-- The lowest bad record, after records that are not bad. -/
theorem lowestBadFrom_first {all : List ProfileRecord} {r : ProfileRecord} {rest : List ProfileRecord} :
    ∀ (good earlier : List ProfileRecord) (index : Nat), r.bad all (earlier ++ good) = true →
    (∀ early x late, good = early ++ x :: late → x.bad all (earlier ++ early) = false) →
    lowestBadFrom all index earlier (good ++ r :: rest) = some (index + good.length)
  | [], earlier, index, hbad, _ => by
    rw [List.append_nil] at hbad
    rw [List.nil_append, lowestBadFrom, if_pos hbad]
    rfl
  | x :: good, earlier, index, hbad, hgood => by
    have hx : x.bad all earlier = false := by
      have := hgood [] x good rfl
      rwa [List.append_nil] at this
    rw [List.cons_append, lowestBadFrom, if_neg (Bool.eq_false_iff.mp hx),
      lowestBadFrom_first good (earlier ++ [x]) (index + 1) (by simpa using hbad)
        fun early y late h => by
          have := hgood (x :: early) y late (by rw [h]; rfl)
          simpa using this,
      List.length_cons, Nat.add_assoc, Nat.add_comm 1]

/-- No bad record at all. -/
theorem lowestBadFrom_good {all : List ProfileRecord} : ∀ (rs earlier : List ProfileRecord) (index : Nat),
    (∀ early x late, rs = early ++ x :: late → x.bad all (earlier ++ early) = false) →
    lowestBadFrom all index earlier rs = none
  | [], _, _, _ => rfl
  | x :: rs, earlier, index, hgood => by
    have hx : x.bad all earlier = false := by
      have := hgood [] x rs rfl
      rwa [List.append_nil] at this
    rw [lowestBadFrom, if_neg (Bool.eq_false_iff.mp hx)]
    refine lowestBadFrom_good rs (earlier ++ [x]) (index + 1) fun early y late h => ?_
    have := hgood (x :: early) y late (by rw [h]; rfl)
    simpa using this

theorem invalidAt_eq {rs : List ProfileRecord} (h : rs ≠ []) : invalidAt rs = lowestBadFrom rs 0 [] rs := by
  cases rs with
  | nil => exact absurd rfl h
  | cons r rest => rfl

/-! #### COMMIT PROFILE -/

theorem State.withCopy_store (s : State) (p : ProfileNo) (n : CopyNo) (c : Copy (List ProfileRecord)) :
    (s.withCopy p n c).store = { s.store with media := s.store.media.setCopy p n c } := by
  cases n <;> rfl

/-- A commit started, as the statement says it. -/
theorem State.startCommit_eq (s : State) (p : ProfileNo) (rs : List ProfileRecord) :
    s.startCommit p rs = { s with
      store := { (s.withCopy p s.store.media.slots[p].target .invalid).store with
        staging := .committing p rs
        operation := .committing p s.store.media.slots[p].target s.store.media.slots[p].nextGeneration
          s.now s.freeIx }
      freeIx := s.freeIx + 1 } := by
  rw [State.withCopy_store]
  rfl

theorem answerCommitProfile_valid {body : List Byte} {p : ProfileNo} {rs : List ProfileRecord}
    (hidle : s.store.operation = .none) (hstaging : s.store.staging = .staging p rs)
    (hvalid : invalidAt rs = none) : answerCommitProfile body (s.received f) = .done .started
      (s.store.media.slots[p].target.code :: leBytes 4 s.store.media.slots[p].nextGeneration.toNat)
      ((s.received f).startCommit p rs) := by
  rw [answerCommitProfile, unlessBusy_received_idle hidle, whenStaging_staging hstaging, hvalid,
    State.received_store]

/-- An event of a store operation that leaves the part with the operation ended. -/
theorem exec_storeDone {t : State} {op : StoreOp} {slot : Option ProfileNo} {r : StoreResult}
    {g : State → State} (hh : s.held = false) (hg : g s = t.finishStore op slot r) :
    Host.Outcome.next (s.event g) = (.next (t.storeDone op slot r) : Host.Outcome State Fault Refusal) := by
  rw [State.event_running hh, hg, State.finishStore_arbitrate]

theorem State.endCommit_eq (s : State) (p : ProfileNo) (copy : CopyNo) (c : Copy (List ProfileRecord))
    (r : StoreResult) : s.endCommit p copy c r =
      ({ s.withCopy p copy c with
        store := { (s.withCopy p copy c).store with staging := .idle } } : State).finishStore .commit
          (some p) r := by
  cases copy <;> rfl

/-- The loadable copy of two VALID ones of different generations. -/
theorem newerIsCopy1_iff {g0 g1 : Serial} (h : g0 ≠ g1) : newerIsCopy1 g0 g1 = true ↔
    g1 = g0 + 1 ∨ (g0 ≠ g1 + 1 ∧ g0.toNat < g1.toNat) := by
  unfold newerIsCopy1
  by_cases h1 : g1 = g0 + 1
  · rw [if_pos h1]; exact iff_of_true rfl (.inl h1)
  rw [if_neg h1, or_iff_right h1]
  by_cases h0 : g0 = g1 + 1
  · rw [if_pos h0]
    exact iff_of_false Bool.false_ne_true fun hne => hne.1 h0
  rw [if_neg h0, if_neg h, decide_eq_true_eq]
  exact (and_iff_right h0).symm

theorem CopyPair.target_some {α : Type} {pair : CopyPair α} {n : CopyNo} {g : Serial} {a : α}
    (h : pair.loadable = some (n, g, a)) : pair.target = n.other ∧ pair.nextGeneration = g + 1 := by
  unfold CopyPair.target CopyPair.nextGeneration
  rw [h]
  exact ⟨rfl, rfl⟩

theorem CopyPair.target_none {α : Type} {pair : CopyPair α} (h : pair.loadable = none) :
    pair.target = .copy0 ∧ pair.nextGeneration = 1 := by
  unfold CopyPair.target CopyPair.nextGeneration
  rw [h]
  exact ⟨rfl, rfl⟩

/-- Settles O44, by the records of the list and by the time of the completion. -/
theorem commitProfile : Obligations.CommitProfile := by
  refine ⟨fun all earlier modeOf hmode => ⟨fun _ _ => bad_lines,
      fun _ => any_sameSingleKind fun x => ?filters, fun _ => any_sameSingleKind fun x => ?journal,
      fun _ => any_sameSingleKind fun x => ?label, fun k d arm => ?trigger⟩,
    fun s seq hpass => ⟨fun hbusy => ?busy, fun hidle hnot => ?notStaging, fun p rs hidle hstaging =>
      ⟨fun hempty => ?emptyList, fun good r rest hrs hbad hgood => ?invalid,
        fun target generation hne hgood htarget hgeneration => ?starts⟩⟩,
    fun s p copy generation started draw n rs hh hs hop hrs hn =>
      ⟨fun htime => ?verified, fun htime => ?fault, fun htime => ?early, fun htime => ?earlyFault⟩,
    fun α pair => ⟨fun g0 a0 g1 a1 hpair hne => ⟨fun hnew => ?newer, fun hold => ?older⟩,
      fun g a h0 h1 => ?only0, fun g a h1 h0 => ?only1, fun h0 h1 => ?neither⟩⟩
  case filters | journal | label => cases x <;> simp [ProfileRecord.sameSingleKind]
  case trigger =>
    have hmodes : modeOf = profileMode all := by
      funext i
      refine (hmode i).trans ?_
      unfold profileMode
      cases profileConfig all i <;> rfl
    rw [bad_trigger, TriggerDef.fits_eq_false, hmodes]
  case busy =>
    exact exec_refused (own := answerCommitProfile) (st := .storeBusy) rfl hpass
      (unlessBusy_received_busy hbusy)
  case notStaging =>
    refine exec_refused (own := answerCommitProfile) (st := .notStaging) rfl hpass ?_
    rw [answerCommitProfile, unlessBusy_received_idle hidle, whenStaging_other hnot]
  case emptyList =>
    refine exec_refused (own := answerCommitProfile) (st := .invalidProfile) rfl hpass ?_
    rw [answerCommitProfile, unlessBusy_received_idle hidle, whenStaging_staging hstaging, hempty]
    rfl
  case invalid =>
    have hinvalid : invalidAt rs = some good.length := by
      have hne : rs ≠ [] := by
        rw [hrs]
        exact List.append_ne_nil_of_right_ne_nil _ (List.cons_ne_nil r rest)
      have hfirst := lowestBadFrom_first (all := rs) (rest := rest) good [] 0 hbad hgood
      rwa [← hrs, Nat.zero_add, ← invalidAt_eq hne] at hfirst
    refine exec_refused (own := answerCommitProfile) (st := .invalidProfile) rfl hpass ?_
    rw [answerCommitProfile, unlessBusy_received_idle hidle, whenStaging_staging hstaging, hinvalid]
  case starts =>
    have hvalid : invalidAt rs = none := by
      rw [invalidAt_eq hne]
      exact lowestBadFrom_good rs [] 0 hgood
    subst htarget hgeneration
    refine exec_store (own := answerCommitProfile) (st := .started) rfl hpass
      (answerCommitProfile_valid hidle hstaging hvalid) (State.startCommit_eq ..) ?_ ?_
    · rw [State.withCopy_store, State.withCopy_store, State.received_store,
        State.received_now, State.received_freeIx]
    · rw [State.received_freeIx]
  case verified =>
    refine exec_storeDone hh ?_
    simp only [hop, if_true]
    rw [← hrs, if_pos (hn ▸ htime), State.endCommit_eq]
  case fault =>
    refine exec_storeDone hh ?_
    simp only [hop, Bool.false_eq_true, if_false]
    rw [← hrs, if_pos (hn ▸ htime), State.endCommit_eq]
  case early =>
    refine congrArg Host.Outcome.next (State.event_same hs ?_)
    simp only [hop, if_true]
    rw [← hrs, if_neg (Nat.not_le.mpr (hn ▸ htime))]
  case earlyFault =>
    refine congrArg Host.Outcome.next (State.event_same hs ?_)
    simp only [hop, Bool.false_eq_true, if_false]
    rw [← hrs, if_neg (Nat.not_le.mpr (hn ▸ htime))]
  case newer =>
    have hloadable : pair.loadable = some (.copy1, g1, a1) := by
      rw [hpair]
      exact if_pos ((newerIsCopy1_iff hne).mpr hnew)
    exact ⟨hloadable, CopyPair.target_some hloadable⟩
  case older =>
    have hloadable : pair.loadable = some (.copy0, g0, a0) := by
      rw [hpair]
      exact if_neg fun h => hold ((newerIsCopy1_iff hne).mp h)
    exact ⟨hloadable, CopyPair.target_some hloadable⟩
  case only0 =>
    have hloadable : pair.loadable = some (.copy0, g, a) := by
      unfold CopyPair.loadable
      rw [h0]
      cases hc : pair.copy1 with
      | valid h b => exact absurd hc (h1 h b)
      | erased | invalid => rfl
    exact ⟨hloadable, CopyPair.target_some hloadable⟩
  case only1 =>
    have hloadable : pair.loadable = some (.copy1, g, a) := by
      unfold CopyPair.loadable
      rw [h1]
      cases hc : pair.copy0 with
      | valid h b => exact absurd hc (h0 h b)
      | erased | invalid => rfl
    exact ⟨hloadable, CopyPair.target_some hloadable⟩
  case neither =>
    have hloadable : pair.loadable = none := by
      unfold CopyPair.loadable
      cases hc0 : pair.copy0 with
      | valid h b => exact absurd hc0 (h0 h b)
      | erased | invalid =>
        cases hc1 : pair.copy1 with
        | valid h b => exact absurd hc1 (h1 h b)
        | erased | invalid => rfl
    exact ⟨hloadable, CopyPair.target_none hloadable⟩

end Sys2Proof.Machine
end


/-! ### Loads, erases, the boot selector and the start-up load (R163 to R171) -/

section
set_option Elab.async false
namespace Sys2Proof.Machine

variable {s : State}

/-! #### What a profile says -/

theorem configOf_eq_some {r : ProfileRecord} {i : LineNo} {c : LineConfig} : r.configOf i = some c ↔
    ∃ first configs, r = .lines first configs ∧ first.val ≤ i.val ∧ configs[i.val - first.val]? = some c := by
  cases r with
  | lines first configs =>
    unfold ProfileRecord.configOf
    dsimp only
    constructor
    · intro h
      split at h
      · next hle => exact ⟨first, configs, rfl, hle, h⟩
      · cases h
    · rintro ⟨_, _, ⟨⟩, hle, h⟩
      rw [if_pos hle, h]
  | filters | journal | trigger | label => exact ⟨nofun, nofun⟩

theorem configOf_eq_none {r : ProfileRecord} {i : LineNo} : r.configOf i = none ↔
    ∀ first configs, r = .lines first configs →
      ¬ (first.val ≤ i.val ∧ i.val < first.val + configs.length) := by
  cases r with
  | lines first configs =>
    rw [← Option.not_isSome_iff_eq_none, configOf_isSome]
    constructor
    · rintro h _ _ ⟨⟩
      exact h
    · exact fun h => h _ _ rfl
  | filters | journal | trigger | label => exact ⟨nofun, fun _ => rfl⟩

/-- The configuration of a line is that of the first LINES record that describes it. -/
theorem profileConfig_eq_some {rs : List ProfileRecord} {i : LineNo} {c : LineConfig} :
    profileConfig rs i = some c ↔
      ∃ before first configs after, rs = before ++ .lines first configs :: after ∧
        (∀ other others, .lines other others ∈ before →
          ¬ (other.val ≤ i.val ∧ i.val < other.val + others.length)) ∧
        first.val ≤ i.val ∧ configs[i.val - first.val]? = some c := by
  rw [profileConfig, List.findSome?_eq_some_iff]
  constructor
  · rintro ⟨before, r, after, hrs, hr, hnone⟩
    obtain ⟨first, configs, rfl, hle, hget⟩ := configOf_eq_some.mp hr
    exact ⟨before, first, configs, after, hrs,
      fun other others hmem => configOf_eq_none.mp (hnone _ hmem) _ _ rfl, hle, hget⟩
  · rintro ⟨before, first, configs, after, hrs, hnone, hle, hget⟩
    refine ⟨before, _, after, hrs, configOf_eq_some.mpr ⟨first, configs, rfl, hle, hget⟩, fun r hr => ?_⟩
    exact configOf_eq_none.mpr fun other others h => hnone other others (h ▸ hr)

theorem profileConfig_eq_none {rs : List ProfileRecord} {i : LineNo} : profileConfig rs i = none ↔
    ∀ first configs, .lines first configs ∈ rs →
      ¬ (first.val ≤ i.val ∧ i.val < first.val + configs.length) := by
  rw [← Option.not_isSome_iff_eq_none, profileConfig_isSome]
  exact ⟨fun h first configs hmem hi => h ⟨first, configs, hmem, hi⟩,
    fun h ⟨first, configs, hmem, hi⟩ => h first configs hmem hi⟩

/-- The first record that a search picks. -/
theorem findSome?_first {α β : Type} {g : α → Option β} {before after : List α} {r : α} {b : β}
    (hbefore : ∀ x ∈ before, g x = none) (hr : g r = some b) :
    (before ++ r :: after).findSome? g = some b :=
  List.findSome?_eq_some_iff.mpr ⟨before, r, after, rfl, hr, hbefore⟩

/-- Whatever a profile sets once for the part, it is set by the first record of its kind. -/
theorem profile_settings (rs : List ProfileRecord) :
    (∀ before times after, rs = before ++ .filters times :: after → (∀ t, .filters t ∉ before) →
      profileSettleTimes rs = times) ∧
    ((∀ t, .filters t ∉ rs) → profileSettleTimes rs = #v[0, 100, 1000, 10000]) ∧
    (∀ before n after, rs = before ++ .journal n :: after → (∀ t, .journal t ∉ before) →
      profileThreshold rs = n) ∧
    ((∀ t, .journal t ∉ rs) → profileThreshold rs = 1) ∧
    (∀ before cs after, rs = before ++ .label cs :: after → (∀ t, .label t ∉ before) →
      profileLabel rs = some cs) ∧
    ((∀ t, .label t ∉ rs) → profileLabel rs = none) := by
  have hnone : ∀ {rs : List ProfileRecord} {β : Type} {g : ProfileRecord → Option β},
      (∀ x ∈ rs, g x = none) → rs.findSome? g = none := List.findSome?_eq_none_iff.mpr
  refine ⟨fun before times after hrs hfirst => ?_, fun hrs => ?_, fun before n after hrs hfirst => ?_,
    fun hrs => ?_, fun before cs after hrs hfirst => ?_, fun hrs => ?_⟩
  · rw [profileSettleTimes, hrs, findSome?_first (r := ProfileRecord.filters times) (b := times) (fun x hx => ?earlier) ?found]
    · rfl
    case earlier =>
      cases x with
      | filters t => exact absurd hx (hfirst t)
      | lines | journal | trigger | label => rfl
    case found => rfl
  · rw [profileSettleTimes, hnone fun x hx => ?_]
    · rfl
    · cases x with
      | filters t => exact absurd hx (hrs t)
      | lines | journal | trigger | label => rfl
  · rw [profileThreshold, hrs, findSome?_first (r := ProfileRecord.journal n) (b := n) (fun x hx => ?earlier) ?found]
    · rfl
    case earlier =>
      cases x with
      | journal t => exact absurd hx (hfirst t)
      | lines | filters | trigger | label => rfl
    case found => rfl
  · rw [profileThreshold, hnone fun x hx => ?_]
    · rfl
    · cases x with
      | journal t => exact absurd hx (hrs t)
      | lines | filters | trigger | label => rfl
  · rw [profileLabel, hrs, findSome?_first (r := ProfileRecord.label cs) (b := cs) (fun x hx => ?earlier) ?found]
    case earlier =>
      cases x with
      | label t => exact absurd hx (hfirst t)
      | lines | filters | trigger | journal => rfl
    case found => rfl
  · refine hnone fun x hx => ?_
    cases x with
    | label t => exact absurd hx (hrs t)
    | lines | filters | trigger | journal => rfl

/-- A slot under a profile is that of the first TRIGGER record of its slot. -/
theorem profileSlot_first {rs before after : List ProfileRecord} {k : SlotNo} {d : TriggerDef} {arm : Bool}
    (hrs : rs = before ++ .trigger k d arm :: after) (hfirst : ∀ e a, .trigger k e a ∉ before) :
    profileSlot rs k = ⟨some d, if arm then .armed else .idle, 0, 0, 0⟩ := by
  have htrigger : profileTrigger rs k = some (d, arm) := by
    rw [profileTrigger, hrs, findSome?_first (r := ProfileRecord.trigger k d arm) (b := (d, arm)) (fun x hx => ?earlier) ?found]
    case earlier =>
      cases x with
      | trigger j e a => exact if_neg fun hj : j = k => hfirst e a (hj ▸ hx)
      | lines | filters | journal | label => rfl
    case found => exact if_pos rfl
  rw [profileSlot, htrigger]

theorem profileSlot_absent {rs : List ProfileRecord} {k : SlotNo} (h : ∀ e a, .trigger k e a ∉ rs) :
    profileSlot rs k = ⟨none, .idle, 0, 0, 0⟩ := by
  have htrigger : profileTrigger rs k = none := by
    rw [← Option.not_isSome_iff_eq_none, profileTrigger_isSome]
    rintro ⟨d, arm, hmem⟩
    exact h d arm hmem
  rw [profileSlot, htrigger]
  rfl

theorem CopyPair.erased_iff {α : Type} (pair : CopyPair α) :
    (pair.copy0.isErased && pair.copy1.isErased) = true ↔ pair = ⟨.erased, .erased⟩ := by
  obtain ⟨c0, c1⟩ := pair
  cases c0 <;> cases c1 <;> simp [Copy.isErased]

/-! #### LOAD PROFILE -/

theorem State.loadBlocked_eq_false (s : State) : s.loadBlocked = false ↔
    s.schedule.entries = [] ∧ ∀ i : LineNo, s.lines[i].claims.pin = none := by
  unfold State.loadBlocked
  rw [Bool.or_eq_false_iff, Bool.not_eq_false', List.isEmpty_iff, List.any_eq_false]
  simp

theorem State.loadBlocked_received (s : State) (f : Frame) : (s.received f).loadBlocked = s.loadBlocked := by
  simp only [State.loadBlocked, State.received_schedule, State.received_lines]

theorem CopyPair.stateCode_none {pair : CopyPair (List ProfileRecord)} (h : pair.loadable = none) :
    pair.stateCode = if pair = ⟨.erased, .erased⟩ then 0 else 2 := by
  unfold CopyPair.stateCode
  rw [h]
  dsimp only
  by_cases herased : pair = ⟨.erased, .erased⟩
  · rw [if_pos herased, if_pos ((CopyPair.erased_iff pair).mpr herased)]
  · rw [if_neg herased, if_neg (mt (CopyPair.erased_iff pair).mp herased)]

/-- Settles O45, by the loadable profile of the slot and by the time of the completion. -/
theorem loadProfile : Obligations.LoadProfile := by
  refine ⟨fun drive => ⟨rfl, rfl, ?pullUp⟩,
    fun rs i => ⟨fun c => profileConfig_eq_some, profileConfig_eq_none⟩, fun rs => ?settings,
    fun s seq number hpass => ⟨fun hbad => ?bad, fun p hp => ⟨fun hbusy => ?busy,
      fun hidle hnone => ?empty, fun n g rs hidle hload => ⟨fun hblocked => ?blocked,
        fun hentries hpins => ?starts⟩⟩⟩,
    fun s p started n g rs hh hs hop hload => ⟨fun htime => ⟨?checked, ?corrupt⟩, fun htime checked => ?early⟩⟩
  case pullUp => cases drive <;> rfl
  case settings =>
    obtain ⟨hfilters, hnoFilters, hjournal, hnoJournal, hlabel, hnoLabel⟩ := profile_settings rs
    exact ⟨hfilters, hnoFilters, hjournal, hnoJournal, hlabel, hnoLabel,
      fun k before d arm after => profileSlot_first, fun k => profileSlot_absent⟩
  case bad =>
    refine exec_refused (own := answerLoadProfile) (st := .badValue) rfl hpass ?_
    rw [answerLoadProfile, parseProfileSlot_none hbad, withOperands]
  case busy =>
    refine exec_refused (own := answerLoadProfile) (st := .storeBusy) rfl hpass ?_
    rw [answerLoadProfile, parseProfileSlot_eq hp, withOperands, unlessBusy_received_busy hbusy]
  case empty =>
    refine exec_refused (own := answerLoadProfile) (st := .slotEmpty) rfl hpass ?_
    rw [answerLoadProfile, parseProfileSlot_eq hp, withOperands, unlessBusy_received_idle hidle,
      State.received_store, hnone]
    exact congrArg (fun code => Answer.refuse .slotEmpty [code]) (CopyPair.stateCode_none hnone)
  case blocked =>
    have hload' : (s.received ⟨seq, 0x55, [number]⟩).loadBlocked = true := by
      rw [State.loadBlocked_received, ← Bool.not_eq_false, State.loadBlocked_eq_false]
      rintro ⟨hentries, hpins⟩
      exact hblocked.elim (absurd hentries) fun ⟨i, hi⟩ => absurd (hpins i) hi
    refine exec_refused (own := answerLoadProfile) (st := .lineInUse) rfl hpass ?_
    rw [answerLoadProfile, parseProfileSlot_eq hp, withOperands, unlessBusy_received_idle hidle,
      State.received_store, hload]
    exact if_pos hload'
  case starts =>
    have hload' : ¬ (s.received ⟨seq, 0x55, [number]⟩).loadBlocked = true := by
      rw [State.loadBlocked_received, (State.loadBlocked_eq_false s).mpr ⟨hentries, hpins⟩]
      exact Bool.false_ne_true
    refine exec_store (own := answerLoadProfile) (st := .started)
      (t := (s.received ⟨seq, 0x55, [number]⟩).withOperation (.loading p s.now)) rfl hpass ?_ rfl
      (by rw [State.received_store]) (rfl (a := (s.received ⟨seq, 0x55, [number]⟩).freeIx))
    rw [answerLoadProfile, parseProfileSlot_eq hp, withOperands, unlessBusy_received_idle hidle,
      State.received_store, hload, State.received_now]
    exact if_neg hload'
  case checked =>
    refine exec_storeDone hh ?_
    simp only [hop, hload, if_true]
    rw [if_pos (by unfold readTime; omega), State.applyProfile_eq]
  case corrupt =>
    refine exec_storeDone hh ?_
    simp only [hop, hload, Bool.false_eq_true, if_false]
    rw [if_pos (by unfold readTime; omega)]
  case early =>
    refine congrArg Host.Outcome.next (State.event_same hs ?_)
    simp only [hop, hload]
    exact if_neg (by unfold readTime; omega)

/-! #### ERASE PROFILE -/

/-- Settles O46, by the step of the erase and its time. -/
theorem eraseProfile : Obligations.EraseProfile := by
  refine ⟨fun s seq number hpass => ⟨fun hbad => ?bad, fun p first hp hfirst => ⟨fun hbusy => ?busy,
      fun hidle => ?starts⟩⟩,
    fun s p first started second hh hs hop => ⟨fun hsecond htime => ?firstStep, fun hearly => ?notFirst,
      fun hsecond htime => ?completes, fun hearly => ?notYet⟩⟩
  case bad =>
    refine exec_refused (own := answerEraseProfile) (st := .badValue) rfl hpass ?_
    rw [answerEraseProfile, parseProfileSlot_none hbad, withOperands]
  case busy =>
    refine exec_refused (own := answerEraseProfile) (st := .storeBusy) rfl hpass ?_
    rw [answerEraseProfile, parseProfileSlot_eq hp, withOperands, unlessBusy_received_busy hbusy]
  case starts =>
    refine exec_store (own := answerEraseProfile) (st := .started)
      (t := (s.received ⟨seq, 0x56, [number]⟩).startErase p) rfl hpass ?_ rfl ?_
      (rfl (a := (s.received ⟨seq, 0x56, [number]⟩).freeIx))
    · rw [answerEraseProfile, parseProfileSlot_eq hp, withOperands, unlessBusy_received_idle hidle]
    · rw [hfirst, State.withCopy_store, State.received_store, State.received_now]
  case firstStep =>
    subst hsecond
    refine congrArg Host.Outcome.next ?_
    rw [State.event_running hh]
    simp only [hop]
    rw [if_pos (by unfold eraseStepTime; omega)]
    refine (State.arbitrate_settled (s := s.endEraseStep p first started) hs).trans ?_
    rw [State.endEraseStep, State.withCopy_store, State.withCopy_store]
  case notFirst =>
    refine congrArg Host.Outcome.next (State.event_same hs ?_)
    cases second with
    | true => simp only [hop]
    | false =>
      simp only [hop]
      exact if_neg (by unfold eraseStepTime; have := hearly.resolve_left Bool.false_ne_true; omega)
  case completes =>
    subst hsecond
    refine exec_storeDone hh ?_
    simp only [hop]
    rw [if_pos (by unfold eraseStepTime; omega), State.endErase]
    exact congrArg (State.finishStore · .erase (some p) .ok) (State.withStore_setCopy s p first.other .erased)
  case notYet =>
    refine congrArg Host.Outcome.next (State.event_same hs ?_)
    cases second with
    | false => simp only [hop]
    | true =>
      simp only [hop]
      exact if_neg (by unfold eraseStepTime; have := hearly.resolve_left (Ne.symm Bool.false_ne_true); omega)

/-! #### SET BOOT SLOT -/

theorem State.withSelectorCopy_store (s : State) (n : CopyNo) (c : Copy (Option ProfileNo)) :
    (s.withSelectorCopy n c).store = { s.store with media := s.store.media.setSelector n c } := by
  cases n <;> rfl

theorem State.endBootWrite_eq (s : State) (value : Option ProfileNo) (copy : CopyNo)
    (c : Copy (Option ProfileNo)) (r : StoreResult) : s.endBootWrite value copy c r =
      (s.withSelectorCopy copy c).finishStore .setBootSlot value r := by
  cases copy <;> rfl

/-- A selector write started, as the statement says it. -/
theorem State.startBootWrite_eq (s : State) (value : Option ProfileNo) : s.startBootWrite value = { s with
    store := { (s.withSelectorCopy s.store.media.selector.target .invalid).store with
      operation := .bootWrite value s.store.media.selector.target s.store.media.selector.nextGeneration
        s.now s.freeIx }
    freeIx := s.freeIx + 1 } := by
  rw [State.withSelectorCopy_store]
  rfl

theorem parseBootSlot_eq {number : Byte} {value : Option ProfileNo}
    (h : value = none ∧ number = 0xFF ∨ ∃ p : ProfileNo, value = some p ∧ p.val = number.toNat) :
    parseBootSlot [number] = some value := by
  show profileFieldOf? number.toNat = some value
  rcases h with ⟨rfl, rfl⟩ | ⟨p, rfl, hp⟩
  · rfl
  · have hne : number.toNat ≠ 255 := by have := p.isLt; omega
    rw [profileFieldOf?, if_neg hne, profileOf?_byte hp]

theorem parseBootSlot_none {number : Byte} (h : 4 ≤ number.toNat) (hne : number ≠ 0xFF) :
    parseBootSlot [number] = none := by
  have hne' : number.toNat ≠ 255 := fun heq => hne (BitVec.eq_of_toNat_eq heq)
  show profileFieldOf? number.toNat = none
  rw [profileFieldOf?, if_neg hne', profileOf?_none h]

/-- Settles O47, by the value that the selector is given and by the time of the completion. -/
theorem setBootSlot : Obligations.SetBootSlot := by
  refine ⟨fun s seq number hpass => ⟨fun hbad hne => ?bad, fun value copy generation hvalue hcopy
      hgeneration => ⟨fun hbusy => ?busy, fun hidle => ?starts⟩⟩,
    fun s value copy generation started draw hh hs hop => ⟨fun htime => ?verified, fun htime => ?fault,
      fun htime => ?early, fun htime => ?earlyFault⟩⟩
  case bad =>
    refine exec_refused (own := answerSetBootSlot) (st := .badValue) rfl hpass ?_
    rw [answerSetBootSlot, parseBootSlot_none hbad hne, withOperands]
  case busy =>
    refine exec_refused (own := answerSetBootSlot) (st := .storeBusy) rfl hpass ?_
    rw [answerSetBootSlot, parseBootSlot_eq hvalue, withOperands, unlessBusy_received_busy hbusy]
  case starts =>
    subst hcopy hgeneration
    refine exec_store (own := answerSetBootSlot) (st := .started) rfl hpass ?_
      (State.startBootWrite_eq _ value) ?_ ?_
    · rw [answerSetBootSlot, parseBootSlot_eq hvalue, withOperands, unlessBusy_received_idle hidle]
    · rw [State.withSelectorCopy_store, State.withSelectorCopy_store, State.received_store,
        State.received_now, State.received_freeIx]
    · rw [State.received_freeIx]
  case verified =>
    refine exec_storeDone hh ?_
    simp only [hop, bootWriteTime, if_true]
    rw [if_pos htime, State.endBootWrite_eq]
  case fault =>
    refine exec_storeDone hh ?_
    simp only [hop, bootWriteTime, Bool.false_eq_true, if_false]
    rw [if_pos htime, State.endBootWrite_eq]
  case early =>
    refine congrArg Host.Outcome.next (State.event_same hs ?_)
    simp only [hop, bootWriteTime, if_true]
    exact if_neg (Nat.not_le.mpr htime)
  case earlyFault =>
    refine congrArg Host.Outcome.next (State.event_same hs ?_)
    simp only [hop, bootWriteTime, Bool.false_eq_true, if_false]
    exact if_neg (Nat.not_le.mpr htime)

end Sys2Proof.Machine
end


/-! ### READ PROFILE and the start-up load (R149, R152, R170, R171) -/

section
set_option Elab.async false
namespace Sys2Proof.Machine

variable {s : State}

/-! #### READ PROFILE -/

theorem parseReadProfile_none {source start : Byte}
    (h : 31 < start.toNat ∨ (4 ≤ source.toNat ∧ source ≠ 0x10)) :
    parseReadProfile [source, start] = none := by
  show (if start.toNat ≤ 31 then _ else none) = none
  rcases h with h | ⟨h, hne⟩
  · exact if_neg (Nat.not_le.mpr h)
  · have hne' : ¬ byteAt [source, start] 0 = 16 := fun heq => hne (BitVec.eq_of_toNat_eq heq)
    by_cases hstart : start.toNat ≤ 31
    · rw [if_pos hstart, if_neg hne', show profileOf? (byteAt [source, start] 0) = none from profileOf?_none h]
    · exact if_neg hstart

theorem parseReadProfile_staging {start : Byte} (h : start.toNat ≤ 31) :
    parseReadProfile [0x10, start] = some (.staging, start.toNat) := if_pos h

theorem parseReadProfile_slot {p : ProfileNo} {source start : Byte} (h : start.toNat ≤ 31)
    (hp : p.val = source.toNat) : parseReadProfile [source, start] = some (.slot p, start.toNat) := by
  have hne : ¬ byteAt [source, start] 0 = 16 := fun heq => by
    have := p.isLt
    have : source.toNat = 16 := heq
    omega
  show (if start.toNat ≤ 31 then _ else none) = _
  rw [if_pos h, if_neg hne, show profileOf? (byteAt [source, start] 0) = some p from profileOf?_byte hp]
  rfl

theorem readProfileContent_received (s : State) (f : Frame) (source : ProfileSource) (start : Nat) :
    readProfileContent (s.received f) source start = readProfileContent s source start := by
  have hrecords : sourceRecords (s.received f) source = sourceRecords s source := by
    cases source <;> simp only [sourceRecords, State.received_store]
  simp only [readProfileContent, hrecords, State.received_store]

theorem sourceRecords_none {p : ProfileNo} (h : s.store.media.slots[p].loadable = none) :
    sourceRecords s (.slot p) = [] := by
  simp only [sourceRecords, h]

theorem sourceRecords_some {p : ProfileNo} {n : CopyNo} {g : Serial} {rs : List ProfileRecord}
    (h : s.store.media.slots[p].loadable = some (n, g, rs)) : sourceRecords s (.slot p) = rs := by
  simp only [sourceRecords, h]

/-- READ PROFILE of a source, which an operation in flight refuses for a slot. -/
theorem exec_readProfile {seq : Byte} {body : List Byte} {source : ProfileSource} {start : Nat}
    (hpass : s.passes (.readProfile seq body) ⟨seq, 0x58, body⟩)
    (hparse : parseReadProfile body = some (source, start))
    (hfree : source = .staging ∨ s.store.operation = .none) : exec (.readProfile seq body) s =
      .next (s.serving ⟨seq, 0x58, body⟩ 0x00 (readProfileContent s source start)) := by
  refine exec_read (own := answerReadProfile) (st := .ok) rfl hpass ?_
  rw [answerReadProfile, hparse, withOperands, ← readProfileContent_received s ⟨seq, 0x58, body⟩]
  cases source with
  | staging => rfl
  | slot p => exact unlessBusy_received_idle (hfree.resolve_left nofun)

/-- The state codes of a profile slot. -/
theorem CopyPair.stateCode_cases (pair : CopyPair (List ProfileRecord)) :
    (pair.loadable ≠ none → pair.stateCode = 1) ∧ (pair = ⟨.erased, .erased⟩ → pair.stateCode = 0) ∧
      (pair.loadable = none → pair ≠ ⟨.erased, .erased⟩ → pair.stateCode = 2) := by
  refine ⟨fun h => ?_, fun h => by rw [h]; rfl, fun hnone hne => ?_⟩
  · unfold CopyPair.stateCode
    cases hload : pair.loadable with
    | none => exact absurd hload h
    | some x => rfl
  · rw [CopyPair.stateCode_none hnone, if_neg hne]

/-- The content of the reply: the parts of the source, and as many of its records as fit. -/
theorem readProfileContent_fitting {source : ProfileSource} {start : Nat} {number : Byte}
    {part : List Byte} (hsource : source = .staging ∧ number = 0x10 ∧ part = List.replicate 15 0 ∨
      ∃ p : ProfileNo, source = .slot p ∧ number = oneByte p.val ∧ part = slotPart s.store.media.slots[p]) :
    readProfileContent s source start =
      [number, s.store.staging.code, profileField s.store.staging.slot] ++ part
        ++ [oneByte (sourceRecords s source).length, profileField s.store.media.bootValue]
        ++ lastResultBlock s.store.lastResult
        ++ [oneByte (fitting 216 (((sourceRecords s source).drop start).map ProfileRecord.bytes)).length]
        ++ (fitting 216 (((sourceRecords s source).drop start).map ProfileRecord.bytes)).flatten := by
  rcases hsource with ⟨rfl, rfl, rfl⟩ | ⟨p, rfl, rfl, rfl⟩
  · rfl
  · rfl

/-- Settles O48, by the source that is read and the records that fit. -/
theorem readProfile : Obligations.ReadProfile := by
  refine ⟨fun p rs => rfl, fun g rs => rfl, rfl, CopyPair.stateCode_cases,
    fun s seq source start hpass => ⟨fun hbad => ?bad, fun hstart hslot hbusy => ?busy,
      fun records part hstart hsource => ?reads⟩⟩
  case bad =>
    refine exec_refused (own := answerReadProfile) (st := .badValue) rfl hpass ?_
    rw [answerReadProfile, parseReadProfile_none hbad, withOperands]
  case busy =>
    refine exec_refused (own := answerReadProfile) (st := .storeBusy) rfl hpass ?_
    rw [answerReadProfile, parseReadProfile_slot (p := ⟨source.toNat, hslot⟩) hstart rfl, withOperands]
    exact unlessBusy_received_busy hbusy
  case reads =>
    obtain ⟨src, hparse, hfree, hparts, hrecords⟩ : ∃ src : ProfileSource,
        parseReadProfile [source, start] = some (src, start.toNat) ∧
        (src = .staging ∨ s.store.operation = .none) ∧
        (src = .staging ∧ source = 0x10 ∧ part = List.replicate 15 0 ∨
          ∃ p : ProfileNo, src = .slot p ∧ source = oneByte p.val ∧
            part = slotPart s.store.media.slots[p]) ∧ records = sourceRecords s src := by
      rcases hsource with ⟨rfl, hrecords, hpart⟩ | ⟨hidle, p, hp, hrecords, hpart⟩
      · exact ⟨.staging, parseReadProfile_staging hstart, .inl rfl, .inl ⟨rfl, rfl, hpart⟩, hrecords⟩
      · have hbyte : source = oneByte p.val := by rw [hp, oneByte, BitVec.ofNat_toNat, BitVec.setWidth_eq]
        refine ⟨.slot p, parseReadProfile_slot hstart hp, .inr hidle, .inr ⟨p, rfl, hbyte, ?_⟩, ?_⟩
        · refine hpart.trans ?_
          unfold slotPart
          rcases s.store.media.slots[p].loadable with _ | ⟨n, g, rs⟩ <;> rfl
        · rcases hload : s.store.media.slots[p].loadable with _ | ⟨n, g, rs⟩
          · rw [hload] at hrecords
            exact hrecords.trans (sourceRecords_none hload).symm
          · rw [hload] at hrecords
            exact hrecords.trans (sourceRecords_some hload).symm
    obtain ⟨given, rest, hdrop, hsum, hover, hfit⟩ :=
      fitting_map ProfileRecord.bytes (records.drop start.toNat) 216
    refine ⟨given, rest, hdrop, hsum, hover, (exec_readProfile hpass hparse hfree).trans ?_⟩
    rw [readProfileContent_fitting hparts, ← hrecords, hfit, List.length_map, ← List.flatMap_def]
    unfold lastResultBlock
    cases s.store.lastResult <;> rfl

/-! #### The start-up load -/

/-- The media and the boot slot that a start-up load reads, and the result and the time it gives. -/
theorem Media.startup_loadable {m : Media} {p : ProfileNo} {n : CopyNo} {g : Serial}
    {rs : List ProfileRecord} (hboot : m.bootValue = some p) (hload : m.slots[p].loadable = some (n, g, rs)) :
    m.bootProfile = some rs ∧ m.startupTime = 3000 + 500 * rs.length := by
  have hprofile : m.bootProfile = some rs := by simp only [Media.bootProfile, hboot, hload, Option.map_some]
  refine ⟨hprofile, ?_⟩
  simp only [Media.startupTime, hprofile, examineTime, readTime]
  omega

theorem Media.startup_unloadable {m : Media} {p : ProfileNo} (hboot : m.bootValue = some p)
    (hload : m.slots[p].loadable = none) : m.bootProfile = none ∧ m.startupTime = 2000 ∧
      m.unreadResult = if m.slots[p] = ⟨.erased, .erased⟩ then .empty else .corrupt := by
  have hprofile : m.bootProfile = none := by simp only [Media.bootProfile, hboot, hload, Option.map_none]
  refine ⟨hprofile, by simp only [Media.startupTime, hprofile, examineTime], ?_⟩
  simp only [Media.unreadResult, hboot, CopyPair.erased_iff]

theorem Media.startup_none {m : Media} (hboot : m.bootValue = none) :
    m.bootProfile = none ∧ m.startupTime = 2000 ∧ m.unreadResult = .none := by
  have hprofile : m.bootProfile = none := by simp only [Media.bootProfile, hboot]
  exact ⟨hprofile, by simp only [Media.startupTime, hprofile, examineTime],
    by simp only [Media.unreadResult, hboot]⟩

theorem State.withBoot_eq {slot : Option ProfileNo} (h : s.store.media.bootValue = slot) (r : BootResult) :
    s.withBoot r = { s with store := { s.store with bootResult := r, bootSlot := slot } } := by
  rw [State.withBoot, h]

/-- The end of the start-up load changes the lines, the settings, the slots and the store alone. -/
theorem State.endStartup_frame (s : State) (checked : Bool) : (s.endStartup checked).link = s.link ∧
    (s.endStartup checked).now = s.now ∧ (s.endStartup checked).schedule = s.schedule ∧
    (s.endStartup checked).session = s.session ∧
    (s.endStartup checked).store.operation = s.store.operation := by
  unfold State.endStartup
  split
  · split
    · simp only [State.withBoot, State.applyProfile, and_self]
    · exact ⟨rfl, rfl, rfl, rfl, rfl⟩
  · exact ⟨rfl, rfl, rfl, rfl, rfl⟩

theorem State.arbitrate_relinked {now : Nat} (h : s.now = now) (l : Link) :
    ({ s with link := l } : State).arbitrate = { s with link := l.arbitrate now } :=
  congrArg (fun now => { s with link := l.arbitrate now }) h

theorem State.underProfile_bootValue (s : State) (rs : List ProfileRecord) :
    (s.underProfile rs).store.media.bootValue = s.store.media.bootValue := by
  simp only [State.underProfile]

/-- A failsafe entry of SAFE_N that aborts no LOAD, at the end of an event. -/
theorem State.enterFailsafe_line (hop : s.store.operation = .none) (hout : s.schedule.outcomes.length ≤ 16) :
    (s.enterFailsafe .line).arbitrate = { s.enteredFailsafe .line with
      link := (s.link.enqueue (.failsafeEntered .line s.now)).arbitrate s.now } := by
  obtain ⟨link, hlink, heq⟩ := State.enterFailsafe_entered hout .line
  have hlinks : s.entryLinks .line = [s.link.enqueue (.failsafeEntered .line s.now)] := by
    simp only [State.entryLinks, hop]
  rw [hlinks, List.mem_singleton] at hlink
  have hnow : (s.enteredFailsafe .line).now = s.now := by simp only [State.enteredFailsafe]
  rw [heq, hlink]
  exact State.arbitrate_relinked hnow _

/-- Settles O49, by the boot profile and by SAFE_N at the end. -/
theorem startupLoad : Obligations.StartupLoad := by
  refine ⟨fun m => ?bootValue, fun s checked hh hs => ⟨fun hstarted => ?started,
    fun booted time hstarting hbooted => ?ends⟩⟩
  case bootValue =>
    unfold Media.bootValue
    rcases m.selector.loadable with _ | ⟨n, g, value⟩ <;> rfl
  case started =>
    exact congrArg Host.Outcome.next (State.event_same hs (if_neg (by
      rw [hstarted, Bool.false_and]
      exact Bool.false_ne_true)))
  case ends =>
    obtain ⟨htime, hend⟩ : s.store.media.startupTime = time ∧ s.endStartup checked = booted := by
      rcases hbooted with ⟨p, n, g, rs, hboot, hload, htime, hbooted⟩ | ⟨p, hboot, hload, htime, hbooted⟩ |
        ⟨hboot, htime, hbooted⟩
      · obtain ⟨hprofile, hstartup⟩ := Media.startup_loadable hboot hload
        refine ⟨hstartup.trans htime.symm, ?_⟩
        rw [State.endStartup, hprofile, hbooted]
        cases checked with
        | true =>
          refine Eq.trans ?_ (State.withBoot_eq ((s.underProfile_bootValue rs).trans hboot) _)
          exact congrArg (State.withBoot · .loaded) (State.applyProfile_eq s rs)
        | false => exact State.withBoot_eq hboot _
      · obtain ⟨hprofile, hstartup, hresult⟩ := Media.startup_unloadable hboot hload
        refine ⟨hstartup.trans htime.symm, ?_⟩
        rw [State.endStartup, hprofile, hbooted, ← hresult]
        exact State.withBoot_eq hboot _
      · obtain ⟨hprofile, hstartup, hresult⟩ := Media.startup_none hboot
        refine ⟨hstartup.trans htime.symm, ?_⟩
        rw [State.endStartup, hprofile, hbooted, ← hresult]
        exact State.withBoot_eq hboot _
    obtain ⟨hlink, hnow, hschedule, hsession, hoperation⟩ := s.endStartup_frame checked
    rw [hend] at hlink hnow hschedule hsession hoperation
    have hset : booted.link.settled := by rw [hlink]; exact hs
    refine ⟨fun hearly => ?early, fun hdue hsafe => ?boots, fun hdue hsafe hstate hidle hout => ?fails⟩
    case early =>
      refine congrArg Host.Outcome.next (State.event_same hs (if_neg ?_))
      rw [Bool.and_eq_true, decide_eq_true_eq, htime]
      exact fun h => absurd h.2 (Nat.not_le.mpr hearly)
    all_goals
      have hcondition : (s.starting && decide (s.store.media.startupTime ≤ s.now)) = true := by
        rw [hstarting, htime, decide_eq_true hdue]
        rfl
      refine congrArg Host.Outcome.next ?_
      rw [State.event_running hh, if_pos hcondition, hend, State.startupSafeNCheck, hsession, hsafe]
    case boots =>
      exact State.arbitrate_settled hset
    case fails =>
      have hentry := State.enterFailsafe_line (s := booted) (hoperation.trans hidle) (by rwa [hschedule])
      rw [hnow] at hentry
      exact hentry

end Sys2Proof.Machine
end


/-! ### Claims, the lease and SAFE_N (R5 to R8, R137 to R145) -/

section
set_option Elab.async false
namespace Sys2Proof.Machine

variable {s : State}

/-! #### Claims -/

theorem ClaimSet.get_set_eq (c : ClaimSet) (cls other : ClaimClass) (claim : Option Claim) :
    (c.set cls claim).get other = if other = cls then claim else c.get other := by
  cases cls <;> cases other <;> rfl

/-- The winner among the claims is the one of the highest rank. -/
theorem ClaimSet.winner_of_highest {c : ClaimSet} {cls : ClaimClass} {claim : Claim}
    (h : c.get cls = some claim)
    (hhigher : ∀ higher : ClaimClass, higher.code.toNat < cls.code.toNat → c.get higher = none) :
    c.winner = some (cls, claim) := by
  have hsplit : ∃ before after, [ClaimClass.failsafe, .pin, .trigger, .schedule, .base] =
      before ++ cls :: after ∧ ∀ higher ∈ before, higher.code.toNat < cls.code.toNat := by
    cases cls with
    | failsafe => exact ⟨[], _, rfl, by decide⟩
    | pin => exact ⟨[.failsafe], _, rfl, by decide⟩
    | trigger => exact ⟨[.failsafe, .pin], _, rfl, by decide⟩
    | schedule => exact ⟨[.failsafe, .pin, .trigger], _, rfl, by decide⟩
    | base => exact ⟨[.failsafe, .pin, .trigger, .schedule], _, rfl, by decide⟩
  obtain ⟨before, after, hlist, hbefore⟩ := hsplit
  have hnone : before.filterMap (fun cls => (c.get cls).map fun claim => (cls, claim)) = [] :=
    List.filterMap_eq_nil_iff.mpr fun higher hh => by rw [hhigher higher (hbefore higher hh)]; rfl
  rw [ClaimSet.winner, ClaimSet.ranked, hlist, List.filterMap_append, hnone, List.nil_append,
    List.filterMap_cons_some (by rw [h]; rfl)]
  rfl

theorem ClaimSet.winner_none {c : ClaimSet} (h : ∀ cls : ClaimClass, c.get cls = none) :
    c.winner = none := by
  have hnil : c.ranked = [] := List.filterMap_eq_nil_iff.mpr fun cls _ => by rw [h cls]; rfl
  rw [ClaimSet.winner, hnil]
  rfl

theorem Line.holds_expired {l : Line} {cls : ClaimClass} {now : Nat} :
    l.holds cls (·.expiredBy now) = true ↔
      ∃ c time, l.claims.get cls = some c ∧ c.expiry = some time ∧ time ≤ now := by
  unfold Line.holds
  cases hget : l.claims.get cls with
  | none => simp
  | some c =>
    unfold Claim.expiredBy
    cases hexp : c.expiry <;> simp [hexp]

/-- Settles O52, by the rank of the claim classes. -/
theorem claimsWinAndExpire : Obligations.ClaimsWinAndExpire := by
  refine ⟨fun c => rfl, ClaimSet.get_set_eq, fun l => ⟨fun hout => ?other, fun hout =>
    ⟨fun cls c hget hhigher => ?wins, fun hnone => ?noClaim⟩⟩, fun s i cls hh hs =>
    ⟨fun c time hget hexpiry htime => ?expires, fun hnot => ?stays⟩⟩
  case other =>
    unfold Line.effective Line.winningClass
    rw [if_neg (by rw [hout]; decide), if_neg (by rw [hout]; decide)]
    exact ⟨rfl, rfl⟩
  case wins =>
    unfold Line.effective Line.winningClass
    rw [if_pos hout, if_pos hout, ClaimSet.winner_of_highest hget hhigher]
    exact ⟨rfl, rfl⟩
  case noClaim =>
    unfold Line.effective Line.winningClass
    rw [if_pos hout, if_pos hout, ClaimSet.winner_none hnone]
    exact ⟨rfl, rfl⟩
  case expires =>
    refine ⟨s.lines[i].claims.set cls none, ?_, fun other hother => ?_, congrArg Host.Outcome.next ?_⟩
    · rw [ClaimSet.get_set_eq, if_pos rfl]
    · rw [ClaimSet.get_set_eq, if_neg hother]
    · rw [State.event_running hh, if_pos (Line.holds_expired.mpr ⟨c, time, hget, hexpiry, htime⟩)]
      exact State.arbitrate_settled hs
  case stays =>
    refine congrArg Host.Outcome.next (State.event_same hs (if_neg fun hholds => ?_))
    obtain ⟨c, time, hget, hexpiry, htime⟩ := Line.holds_expired.mp hholds
    exact absurd htime (Nat.not_le.mpr (hnot c time hget hexpiry))

/-! #### The lease -/

/-- A failsafe entry at the end of an event. -/
theorem State.enterFailsafe_arbitrate (hout : s.schedule.outcomes.length ≤ 16) (c : FailsafeCause) :
    ∃ link ∈ s.entryLinks c, (s.enterFailsafe c).arbitrate =
      { s.enteredFailsafe c with link := link.arbitrate s.now } := by
  obtain ⟨link, hlink, heq⟩ := State.enterFailsafe_entered hout c
  have hnow : (s.enteredFailsafe c).now = s.now := by simp only [State.enteredFailsafe]
  exact ⟨link, hlink, by rw [heq]; exact State.arbitrate_relinked hnow _⟩

theorem reached_eq_false {t : Option Nat} {now : Nat} :
    reached t now = false ↔ ∀ time ∈ t, now < time := by
  cases t <;> simp [reached]

/-- A time of the lease has come in ACTIVE. -/
theorem leaseReached {time now : Nat} {t : Option Nat} {m : Session} (hstate : m.state = .active)
    (ht : t = some time) (hle : time ≤ now) : (m.isActive && reached t now) = true := by
  rw [Session.isActive, decide_eq_true hstate, ht, (reached_iff _ _).mpr ⟨time, rfl, hle⟩]
  rfl

theorem leaseReached_not {now : Nat} {t : Option Nat} {m : Session}
    (h : m.state ≠ .active ∨ ∀ time ∈ t, now < time) : ¬ (m.isActive && reached t now) = true := by
  rw [Bool.and_eq_true]
  rintro ⟨hactive, hreached⟩
  rcases h with h | h
  · exact h (of_decide_eq_true hactive)
  · rw [reached_eq_false.mpr h] at hreached
    cases hreached

/-- Settles O53, by the state of the session and its two times. -/
theorem leaseTimes : Obligations.LeaseTimes := by
  intro s hh hs
  refine ⟨fun time t hstate hwarning htime ht => ?warning, fun hnot => ?noWarning,
    fun time hstate hdeadline htime hout => ?expiry, fun hnot => ?noExpiry⟩
  case warning =>
    have hwarn : s.warn = t := ht.symm
    have hnow : t.now = s.now := by rw [ht, State.enqueue_eq]
    refine congrArg Host.Outcome.next ?_
    rw [State.event_running hh, if_pos (leaseReached hstate hwarning htime), hwarn]
    exact State.arbitrate_relinked hnow t.link
  case noWarning =>
    exact congrArg Host.Outcome.next (State.event_same hs (if_neg (leaseReached_not hnot)))
  case expiry =>
    obtain ⟨link, hlink, heq⟩ := State.enterFailsafe_arbitrate hout .lease
    refine ⟨link, hlink, congrArg Host.Outcome.next ?_⟩
    rw [State.event_running hh, if_pos (leaseReached hstate hdeadline htime), heq]
  case noExpiry =>
    exact congrArg Host.Outcome.next (State.event_same hs (if_neg (leaseReached_not hnot)))

/-! #### SAFE_N -/

theorem Level.beq_low (level : Level) : (level == .low) = decide (level = .low) := by
  cases level <;> rfl

/-- A sample of SAFE_N, the first of its device time, with no settle in progress. -/
theorem SafeFilter.sample_begins {f : SafeFilter} {level : Level} {now : Nat} (h : f.sampled = false)
    (ho : f.onset = none) : f.sample level now =
      ⟨level, f.asserted, if decide (level = .low) = f.asserted then none else some now, true⟩ := by
  unfold SafeFilter.sample SafeFilter.beginSettle
  rw [if_neg (by rw [h]; decide), ← Level.beq_low, ho]

/-- A sample of SAFE_N, the first of its device time, during a settle. -/
theorem SafeFilter.sample_goesOn {f : SafeFilter} {level : Level} {now o : Nat} (h : f.sampled = false)
    (ho : f.onset = some o) : f.sample level now = ⟨level, f.asserted,
      if decide (level = .low) = f.asserted ∧ now < o + 1000 then none else some o, true⟩ := by
  unfold SafeFilter.sample
  rw [if_neg (by rw [h]; decide), ← Level.beq_low, ho]
  by_cases hdiscard : (level == .low) = f.asserted ∧ now < o + safeNSettle
  · exact (if_pos hdiscard).trans (by rw [if_pos (show _ ∧ now < o + 1000 from hdiscard)])
  · exact (if_neg hdiscard).trans (by rw [if_neg (show ¬ (_ ∧ now < o + 1000) from hdiscard), ← ho])

theorem SafeFilter.complete_iff {f : SafeFilter} {now : Nat} :
    f.complete now = true ↔ ∃ o, f.onset = some o ∧ o + 1000 ≤ now := by
  unfold SafeFilter.complete safeNSettle
  cases f.onset <;> simp

/-- A qualification of SAFE_N whose last sample is of the new level. -/
theorem SafeFilter.qualify_eq {f : SafeFilter} {now : Nat} (h : (f.raw == .low) = !f.asserted) :
    f.qualify now = { f with asserted := !f.asserted, onset := none } := by
  unfold SafeFilter.qualify SafeFilter.beginSettle
  dsimp only
  rw [if_pos h]

theorem exec_safeNQualification (hh : s.held = false) {o : Nat} (ho : s.session.safeN.onset = some o)
    (hle : o + 1000 ≤ s.now) : exec .safeNQualification s = .next s.qualifySafeN.arbitrate := by
  refine congrArg Host.Outcome.next ?_
  rw [State.event_running hh, if_pos (SafeFilter.complete_iff.mpr ⟨o, ho, hle⟩)]

/-- Settles O54, by the settle of SAFE_N and, at an assertion, by the session state. -/
theorem safeNInput : Obligations.SafeNInput := by
  refine ⟨fun s level hh hs => ⟨fun hsampled => ?again, fun onset hsampled honset => ?sample⟩,
    fun s hh hs => ⟨fun hnot => ?early, fun o t ho hle ht =>
      ⟨fun hasserted hraw => ?released, fun hasserted hraw => ?asserted⟩⟩⟩
  case again =>
    have hsame : s.session.safeN.sample level s.now = s.session.safeN := if_pos hsampled
    rw [show exec (.safeNChange level) s = _ from if_neg (by rw [hh]; decide)]
    refine congrArg Host.Outcome.next ?_
    rw [State.event_running hh, hsame]
    exact State.arbitrate_settled hs
  case sample =>
    rw [show exec (.safeNChange level) s = _ from if_neg (by rw [hh]; decide)]
    refine congrArg Host.Outcome.next ?_
    have hfilter : s.session.safeN.sample level s.now = ⟨level, s.session.safeN.asserted, onset, true⟩ := by
      cases ho : s.session.safeN.onset with
      | none => rw [SafeFilter.sample_begins hsampled ho, honset, ho]
      | some o => rw [SafeFilter.sample_goesOn hsampled ho, honset, ho]
    rw [State.event_running hh, hfilter]
    exact State.arbitrate_settled hs
  case early =>
    refine congrArg Host.Outcome.next (State.event_same hs (if_neg fun hcomplete => ?_))
    obtain ⟨o, ho, hle⟩ := SafeFilter.complete_iff.mp hcomplete
    exact absurd hle (Nat.not_le.mpr (hnot o ho))
  case released =>
    have hqualify : s.qualifySafeN = t := by
      rw [State.qualifySafeN, SafeFilter.qualify_eq (by rw [hraw, hasserted]; rfl), ht, hasserted]
      rfl
    rw [exec_safeNQualification hh ho hle, hqualify]
    have hset : t.link.settled := by rw [ht]; exact hs
    exact congrArg Host.Outcome.next (State.arbitrate_settled hset)
  case asserted =>
    have hqualify : s.qualifySafeN = t.assertSafeN := by
      rw [State.qualifySafeN, SafeFilter.qualify_eq (by rw [hraw, hasserted]; rfl), ht, hasserted]
      rfl
    have hset : t.link.settled := by rw [ht]; exact hs
    have hstate : t.session.state = s.session.state := by rw [ht]
    have hstarting : t.starting = s.starting := by rw [ht]; rfl
    rw [exec_safeNQualification hh ho hle, hqualify]
    refine ⟨fun hno hstart => ?_, fun hfailsafe => ?_, fun henters hout => ?_⟩
    · have hassert : t.assertSafeN = t := by
        simp only [State.assertSafeN, hstate, hno]
        rw [if_pos (hstarting.trans hstart)]
      rw [hassert]
      exact congrArg Host.Outcome.next (State.arbitrate_settled hset)
    · have hassert : t.assertSafeN = t.addLineCause := by
        simp only [State.assertSafeN, hstate, hfailsafe]
      rw [hassert]
      exact congrArg Host.Outcome.next (State.arbitrate_settled (s := t.addLineCause) hset)
    · have hassert : t.assertSafeN = t.enterFailsafe .line := by
        rcases henters with hactive | ⟨hno, hstarted⟩
        · simp only [State.assertSafeN, hstate, hactive]
        · simp only [State.assertSafeN, hstate, hno]
          rw [if_neg (by rw [hstarting, hstarted]; decide)]
      have hnow : t.now = s.now := by rw [ht]
      obtain ⟨link, hlink, heq⟩ := State.enterFailsafe_arbitrate (s := t) (by rwa [ht]) .line
      rw [hnow] at heq
      exact ⟨link, hlink, by rw [hassert, heq]⟩

end Sys2Proof.Machine
end


/-! ### Samples, settles and qualifications (R30 to R37) -/

section
set_option Elab.async false
namespace Sys2Proof.Machine

variable {s t : State} {i : LineNo}

/-! #### What the delivery of an edge leaves -/

/-- A part with the clock, the settle times, and the configurations and filters of the lines of another. -/
structure State.SensesAs (t s : State) : Prop where
  now : t.now = s.now
  settleTimes : t.settleTimes = s.settleTimes
  config : ∀ i : LineNo, t.lines[i].config = s.lines[i].config
  filter : ∀ i : LineNo, t.lines[i].filter = s.lines[i].filter

namespace State.SensesAs

theorem refl (s : State) : s.SensesAs s := ⟨rfl, rfl, fun _ => rfl, fun _ => rfl⟩

theorem enqueue (h : t.SensesAs s) (c : NoticeContent) : (t.enqueue c).SensesAs s := by
  rw [State.enqueue_eq]
  exact ⟨h.now, h.settleTimes, h.config, h.filter⟩

theorem drawn (h : t.SensesAs s) : t.drawn.SensesAs s := ⟨h.now, h.settleTimes, h.config, h.filter⟩

theorem setSlot (h : t.SensesAs s) (k : SlotNo) (slot : Slot) : (t.setSlot k slot).SensesAs s :=
  ⟨h.now, h.settleTimes, h.config, h.filter⟩

theorem leave (h : t.SensesAs s) (e : Entry) (o : EntryOutcome) : (t.leave e o).SensesAs s := by
  have htimes := congrArg State.settleTimes (State.leave_frame t e o)
  refine ⟨(State.leave_now t e o).trans h.now, Eq.trans htimes h.settleTimes, fun i => ?_, fun i => ?_⟩
  · rw [State.leave_line]; exact h.config i
  · rw [State.leave_line]; exact h.filter i

theorem applyTargets (h : t.SensesAs s) (cls : ClaimClass) (origin : Origin) (expiry : Option Nat)
    (targets : List Target) : (t.applyTargets cls origin expiry targets).SensesAs s := by
  have hline : ∀ i : LineNo, (t.applyTargets cls origin expiry targets).lines[i].config = t.lines[i].config ∧
      (t.applyTargets cls origin expiry targets).lines[i].filter = t.lines[i].filter := by
    intro i
    rw [State.applyTargets, State.mapLines_line]
    split
    · rw [Line.applyTarget_eq]; exact ⟨Line.targeted_config .., Line.targeted_filter ..⟩
    · exact ⟨rfl, rfl⟩
  refine ⟨?_, ?_, fun i => (hline i).1.trans (h.config i), fun i => (hline i).2.trans (h.filter i)⟩
  · rw [State.applyTargets, State.mapLines_now]; exact h.now
  · rw [State.applyTargets, State.mapLines_settleTimes]; exact h.settleTimes

theorem fire (h : t.SensesAs s) (k : SlotNo) : (t.fire k).SensesAs s := by
  unfold State.fire
  cases t.slots[k].definition with
  | none => exact h
  | some d =>
    exact setSlot (State.fireCancelAndNotice_keeps (·.SensesAs s) (fun _ e o ht => ht.leave e o)
      (fun _ c ht => ht.enqueue c) (fun _ ht => ht.drawn) _ k d _ (h.applyTargets ..)) k _

theorem offerEdge (h : t.SensesAs s) (e : Edge) (k : SlotNo) : (State.offerEdge e t k).SensesAs s := by
  unfold State.offerEdge State.takeWatched
  dsimp only
  repeat' split
  all_goals first
    | exact h
    | exact h.fire k
    | exact h.setSlot k _

theorem applyWaiting (h : t.SensesAs s) (id : Nat) : (t.applyWaiting id).SensesAs s := by
  unfold State.applyWaiting
  cases t.schedule.find id with
  | none => exact h
  | some e => exact (h.applyTargets ..).leave _ _

theorem takeJournalEdge (h : t.SensesAs s) (e : Edge) : (t.takeJournalEdge e).SensesAs s := by
  have hjournal : ∀ j, ({ t with journal := j } : State).SensesAs s := fun j =>
    ⟨h.now, h.settleTimes, h.config, h.filter⟩
  rw [State.takeJournalEdge_eq]
  unfold State.journaled
  repeat' split
  · exact (hjournal _).enqueue _
  · exact hjournal _
  · exact h

/-- The delivery of an edge leaves the clock, the settle times, and the configurations and filters as they are. -/
theorem deliver (h : t.SensesAs s) (e : Edge) : (t.deliver e).SensesAs s :=
  State.deliver_keeps (·.SensesAs s) e (fun _ ht => ht.takeJournalEdge e)
    (fun t ht => State.takeTriggerEdge_keeps (·.SensesAs s) e (fun _ k ht => ht.offerEdge e k) t ht)
    (fun t ht => State.takeGuardEdge_keeps (·.SensesAs s) e (fun _ id ht => ht.applyWaiting id) t ht)
    (fun _ ht => ht.drawn) t h

end State.SensesAs

/-! #### Settles -/

theorem Level.ne_inv (level : Level) : level ≠ level.inv := by cases level <;> decide

theorem Level.eq_inv {a b : Level} (h : a ≠ b) : a = b.inv := by
  cases a <;> cases b <;> first
    | rfl
    | exact absurd rfl h

theorem State.updateLine_updateLine (s : State) (i : LineNo) (f g : Line → Line) :
    (s.updateLine i f).updateLine i g = s.updateLine i fun l => g (f l) := by
  simp [State.updateLine]

theorem State.updateLine_same (s : State) (i : LineNo) (f : Line → Line) :
    (s.updateLine i f).lines[i] = f s.lines[i] := by
  rw [State.updateLine_line, if_pos rfl]

section BeginSettle

variable {f : Filter} (hf : s.lines[i].filter = some f)
include hf

theorem State.qualify_eq (onset : Nat) : s.qualify i onset =
    (s.updateLine i (·.withFilter { f with filtered := f.filtered.inv, settle := none })).deliver
      ⟨i, Level.edgeFrom f.filtered, onset, s.now⟩ := by
  unfold State.qualify
  simp only [hf]
  rfl

theorem State.beginSettle_same (h : f.raw = f.filtered) : s.beginSettle i = s := by
  unfold State.beginSettle
  simp only [hf, if_pos h]

theorem State.beginSettle_settles (h : f.raw ≠ f.filtered)
    (hd : 0 < s.settleTimes[s.lines[i].config.cls]) : s.beginSettle i =
      s.updateLine i (·.withFilter { f with
        settle := some ⟨s.now, s.settleTimes[s.lines[i].config.cls]⟩ }) := by
  unfold State.beginSettle
  simp only [hf, if_neg h, if_neg (Nat.pos_iff_ne_zero.mp hd)]

theorem State.beginSettle_qualifies (h : f.raw ≠ f.filtered)
    (hd : s.settleTimes[s.lines[i].config.cls] = 0) : s.beginSettle i = s.qualify i s.now := by
  unfold State.beginSettle
  simp only [hf, if_neg h, if_pos hd]

end BeginSettle

/-! #### Samples -/

theorem exec_rawChange {circuit : Outside} (hh : s.held = false) :
    exec (.rawChange i circuit) s = .next (s.sampleLine i circuit).arbitrate := by
  rw [show exec (.rawChange i circuit) s = _ from if_neg (by rw [hh]; decide), State.event_running hh]

/-- The circuit outside a line that takes no sample. -/
theorem State.sampleLine_unsampled {circuit : Outside}
    (h : ∀ f, s.lines[i].filter = some f → f.sampled = true) :
    s.sampleLine i circuit = s.updateLine i ({ · with circuit := circuit }) := by
  unfold State.sampleLine
  dsimp only
  rw [State.updateLine_same]
  cases hf : s.lines[i].filter with
  | none => rfl
  | some f => exact if_pos (h f hf)

/-- A line with a sample taken into its filter. -/
def Line.withSample (l : Line) (circuit : Outside) (f : Filter) (sample : Level) : Line :=
  { l with circuit := circuit, filter := some { f with raw := sample, sampled := true } }

theorem Settle.complete_iff {p : Settle} {now : Nat} : p.complete now = true ↔ p.onset + p.duration ≤ now :=
  decide_eq_true_iff

section Sample

variable {f : Filter} {circuit : Outside} {sample : Level} (hf : s.lines[i].filter = some f)
  (hsampled : f.sampled = false) (hsample : sample = pinLevel circuit f.drive)
include hf hsampled hsample

theorem State.sampleLine_takes : s.sampleLine i circuit =
    (s.updateLine i ({ · with circuit := circuit })).takeSample i sample := by
  unfold State.sampleLine
  dsimp only
  rw [State.updateLine_same, hf, hsample]
  exact if_neg (by rw [hsampled]; decide)

/-- A sample with no settle in progress. -/
theorem State.sampleLine_noSettle (hnone : f.settle = none) : s.sampleLine i circuit =
    (s.updateLine i (·.withSample circuit f sample)).beginSettle i := by
  obtain ⟨raw, filtered, settle, drive, sampled⟩ := f
  obtain rfl : settle = none := hnone
  rw [State.sampleLine_takes hf hsampled hsample, State.takeSample, State.updateLine_same, hf]
  simp only [State.updateLine_updateLine]
  rfl

/-- A sample during a settle that is a glitch. -/
theorem State.sampleLine_glitch {p : Settle} (hp : f.settle = some p) (hsame : sample = f.filtered)
    (hearly : s.now < p.onset + p.duration) : s.sampleLine i circuit =
      s.updateLine i fun l => { l with
        circuit := circuit, filter := some { f with raw := sample, settle := none, sampled := true }
        glitches := min (l.glitches + 1) 255 } := by
  have hglitch : sample = f.filtered ∧ ¬ p.complete s.now = true :=
    ⟨hsame, mt Settle.complete_iff.mp (Nat.not_le.mpr hearly)⟩
  obtain ⟨raw, filtered, settle, drive, sampled⟩ := f
  obtain rfl : settle = some p := hp
  rw [State.sampleLine_takes hf hsampled hsample, State.takeSample, State.updateLine_same, hf]
  simp only [State.updateLine_now, State.updateLine_updateLine]
  exact if_pos hglitch

/-- A sample during a settle that changes the raw level alone. -/
theorem State.sampleLine_kept {p : Settle} (hp : f.settle = some p)
    (hkept : sample ≠ f.filtered ∨ p.onset + p.duration ≤ s.now) :
    s.sampleLine i circuit = s.updateLine i (·.withSample circuit f sample) := by
  have hno : ¬ (sample = f.filtered ∧ ¬ p.complete s.now = true) := fun ⟨hsame, hearly⟩ =>
    hkept.elim (absurd hsame) fun hdone => hearly (Settle.complete_iff.mpr hdone)
  obtain ⟨raw, filtered, settle, drive, sampled⟩ := f
  obtain rfl : settle = some p := hp
  rw [State.sampleLine_takes hf hsampled hsample, State.takeSample, State.updateLine_same, hf]
  simp only [State.updateLine_now, State.updateLine_updateLine]
  exact if_neg hno

end Sample

/-- A sample that changes its line alone leaves the transmitter nothing to choose. -/
theorem exec_rawChange_line {circuit : Outside} {g : Line → Line} (hh : s.held = false)
    (hs : s.link.settled) (h : s.sampleLine i circuit = s.updateLine i g) :
    exec (.rawChange i circuit) s = .next { s with lines := s.lines.set i (g s.lines[i]) } := by
  rw [exec_rawChange hh, h]
  exact congrArg Host.Outcome.next (State.arbitrate_settled (s := s.updateLine i g) hs)

/-- Settles O50, by the settle in progress and the level that is sampled. -/
theorem rawChange : Obligations.RawChange := by
  refine ⟨fun drive => ⟨rfl, rfl, ?pullUp⟩, fun s i circuit hh hs =>
    ⟨fun hf => ?unsensed, fun f hf hsampled => ?again, fun f sample hf hsampled hsample =>
      ⟨fun p hp hsame hearly => ?glitch, fun hkept => ?kept, fun hnone hdiff htime => ?settles,
        fun t hnone hdiff htime ht => ?qualifies⟩⟩⟩
  case pullUp => cases drive <;> rfl
  case unsensed =>
    exact exec_rawChange_line hh hs (State.sampleLine_unsampled fun f hf' => by rw [hf] at hf'; cases hf')
  case again =>
    refine exec_rawChange_line hh hs (State.sampleLine_unsampled fun g hg => ?_)
    rw [hf] at hg
    exact Option.some.inj hg ▸ hsampled
  case glitch =>
    exact exec_rawChange_line hh hs (State.sampleLine_glitch hf hsampled hsample hp hsame hearly)
  case kept =>
    rcases hkept with ⟨hnone, hsame⟩ | ⟨p, hp, hkept⟩
    · refine exec_rawChange_line (g := (·.withSample circuit f sample)) hh hs ((State.sampleLine_noSettle hf hsampled hsample hnone).trans ?_)
      exact State.beginSettle_same (by rw [State.updateLine_same]; rfl) hsame
    · exact exec_rawChange_line hh hs (State.sampleLine_kept hf hsampled hsample hp hkept)
  all_goals
    have hfilter : (s.updateLine i (·.withSample circuit f sample)).lines[i].filter =
        some { f with raw := sample, sampled := true } := by rw [State.updateLine_same]; rfl
    have hduration : (s.updateLine i (·.withSample circuit f sample)).settleTimes[
          (s.updateLine i (·.withSample circuit f sample)).lines[i].config.cls] =
        s.settleTimes[s.lines[i].config.cls] := by
      simp only [State.updateLine_settleTimes, State.updateLine_same]
      rfl
  case settles =>
    have hbegins := State.beginSettle_settles hfilter hdiff (by rw [hduration]; exact htime)
    rw [hduration, State.updateLine_now, State.updateLine_updateLine] at hbegins
    exact exec_rawChange_line hh hs ((State.sampleLine_noSettle hf hsampled hsample hnone).trans hbegins)
  case qualifies =>
    have hbegins := State.beginSettle_qualifies hfilter hdiff (hduration.trans htime)
    rw [State.qualify_eq hfilter, State.updateLine_now, State.updateLine_updateLine] at hbegins
    have hsampleLine := (State.sampleLine_noSettle hf hsampled hsample hnone).trans hbegins
    have hinv : sample = f.filtered.inv := Level.eq_inv hdiff
    have hline : s.sampleLine i circuit = t := by
      rw [hsampleLine, ht, hinv]
      obtain ⟨raw, filtered, settle, drive, sampled⟩ := f
      obtain rfl : settle = none := hnone
      cases filtered <;> rfl
    have hnow : t.now = s.now := by
      rw [ht]
      exact ((State.SensesAs.refl _).deliver _).now
    rw [exec_rawChange hh, hline]
    exact congrArg Host.Outcome.next (State.arbitrate_relinked hnow t.link)

/-! #### Qualifications -/

/-- The three receivers take an edge in one of their six orders. -/
theorem State.deliverInOrder_fold (s : State) (e : Edge) (n : Nat) :
    ∃ order ∈ [State.takeJournalEdge, State.takeTriggerEdge, State.takeGuardEdge].permutations,
      s.deliverInOrder e n = order.foldl (fun t take => take t e) s := by
  have hperm : ∀ (a b c : State → Edge → State), [a, b, c] ∈ [a, b, c].permutations ∧
      [a, c, b] ∈ [a, b, c].permutations ∧ [b, a, c] ∈ [a, b, c].permutations ∧
      [b, c, a] ∈ [a, b, c].permutations ∧ [c, a, b] ∈ [a, b, c].permutations ∧
      [c, b, a] ∈ [a, b, c].permutations := by
    intro a b c
    simp only [List.mem_permutations]
    have hbc : [a, c, b].Perm [a, b, c] := (List.Perm.swap b c []).cons a
    have hab : [b, a, c].Perm [a, b, c] := List.Perm.swap a b [c]
    have hbca : [b, c, a].Perm [a, b, c] := ((List.Perm.swap a c []).cons b).trans hab
    exact ⟨.refl _, hbc, hab, hbca, (List.Perm.swap a c [b]).trans hbc, (List.Perm.swap b c [a]).trans hbca⟩
  have hfold : ∀ a b c : State → Edge → State,
      [a, b, c].foldl (fun t take => take t e) s = c (b (a s e) e) e := fun _ _ _ => rfl
  obtain ⟨h0, h1, h2, h3, h4, h5⟩ := hperm State.takeJournalEdge State.takeTriggerEdge State.takeGuardEdge
  unfold State.deliverInOrder
  split
  · exact ⟨_, h0, (hfold ..).symm⟩
  · exact ⟨_, h1, (hfold ..).symm⟩
  · exact ⟨_, h2, (hfold ..).symm⟩
  · exact ⟨_, h3, (hfold ..).symm⟩
  · exact ⟨_, h4, (hfold ..).symm⟩
  · exact ⟨_, h5, (hfold ..).symm⟩

theorem State.deliver_fold (s : State) (e : Edge) :
    ∃ order ∈ [State.takeJournalEdge, State.takeTriggerEdge, State.takeGuardEdge].permutations,
      ∃ ix ∈ [s.freeIx, s.freeIx + 1],
        s.deliver e = order.foldl (fun t take => take t e) { s with freeIx := ix } := by
  unfold State.deliver
  split
  · obtain ⟨order, horder, heq⟩ := s.drawn.deliverInOrder_fold e (Config.choice s.freeIx % 6)
    exact ⟨order, horder, s.freeIx + 1, by simp, heq⟩
  · obtain ⟨order, horder, heq⟩ := s.deliverInOrder_fold e 0
    exact ⟨order, horder, s.freeIx, by simp, heq⟩

/-- Settles O51, by the last sample and by the orders of the receivers. -/
theorem qualificationDeliversEdge : Obligations.QualificationDeliversEdge := by
  refine ⟨fun s i hh hs => ⟨fun f p level t hf hp hdone hlevel ht => ?done, fun hnot => ?early⟩,
    State.deliver_fold⟩
  case done =>
    have hcomplete : s.completeSettle i = (s.qualify i p.onset).beginSettle i := by
      unfold State.completeSettle
      simp only [hf, hp, if_pos (Settle.complete_iff.mpr hdone)]
    have hlevel' : level = f.filtered.inv := by rw [hlevel]; cases f.filtered <;> rfl
    have hedge : ⟨i, Level.edgeFrom f.filtered, p.onset, s.now⟩ =
        (⟨i, (match f.filtered with | .low => .rise | .high => .fall), p.onset, s.now⟩ : Edge) := by
      cases f.filtered <;> rfl
    have hqualify : s.qualify i p.onset = t := by
      rw [State.qualify_eq hf, hedge, ← hlevel']
      exact ht.symm
    have hsenses : t.SensesAs (s.updateLine i (·.withFilter { f with filtered := level, settle := none })) := by
      rw [ht]
      exact (State.SensesAs.refl _).deliver _
    have hnow : t.now = s.now := hsenses.now
    have hfilter : t.lines[i].filter = some { f with filtered := level, settle := none } := by
      rw [hsenses.filter, State.updateLine_same]
      rfl
    have hduration : t.settleTimes[t.lines[i].config.cls] = s.settleTimes[s.lines[i].config.cls] := by
      simp only [hsenses.settleTimes, hsenses.config, State.updateLine_settleTimes, State.updateLine_same]
      rfl
    have hexec : exec (.qualification i) s = .next (t.beginSettle i).arbitrate := by
      refine congrArg Host.Outcome.next ?_
      rw [State.event_running hh, hcomplete, hqualify]
    refine ⟨fun hdiff => ?_, fun hsame htime => ?_, fun u hsame htime hu => ?_⟩
    · have hraw : f.raw = level := by rw [hlevel']; exact Level.eq_inv hdiff
      rw [hexec, State.beginSettle_same hfilter hraw]
      exact congrArg Host.Outcome.next (State.arbitrate_relinked hnow t.link)
    · have hraw : f.raw ≠ level := by rw [hsame, hlevel']; exact Level.ne_inv _
      have hbegins := State.beginSettle_settles hfilter hraw (by rwa [hduration])
      rw [hduration, hnow] at hbegins
      rw [hexec, hbegins]
      exact congrArg Host.Outcome.next (State.arbitrate_relinked (s := t.updateLine i (·.withFilter
        { f with filtered := level, settle := some ⟨s.now, s.settleTimes[s.lines[i].config.cls]⟩ })) hnow
        t.link)
    · have hraw : f.raw ≠ level := by rw [hsame, hlevel']; exact Level.ne_inv _
      rw [hexec, State.beginSettle_qualifies hfilter hraw (by rwa [hduration]), State.qualify_eq hfilter, hnow]
      have hagain : (t.updateLine i (·.withFilter { f with filtered := level.inv, settle := none })).deliver
          ⟨i, Level.edgeFrom level, s.now, s.now⟩ = u := by
        rw [hu, hlevel']
        obtain ⟨raw, filtered, settle, drive, sampled⟩ := f
        cases filtered <;> rfl
      have hnow' : u.now = s.now := by
        rw [hu]
        exact ((State.SensesAs.refl _).deliver _).now.trans hnow
      rw [hagain]
      exact congrArg Host.Outcome.next (State.arbitrate_relinked hnow' u.link)
  case early =>
    refine congrArg Host.Outcome.next (State.event_same hs ?_)
    unfold State.completeSettle
    cases hf : s.lines[i].filter with
    | none => rfl
    | some f =>
      cases hp : f.settle with
      | none => simp only [hp]
      | some p =>
        simp only [hp]
        exact if_neg (mt Settle.complete_iff.mp (Nat.not_le.mpr (hnot f p hf hp)))

end Sys2Proof.Machine
end


/-! ### What requests carry, byte for byte -/

section
set_option Elab.async false
namespace Sys2Proof.Machine

/-! #### Codes -/

/-- A code is read back as exactly the value that it is written for. -/
def ReadsBack {α : Type} (read : Nat → Option α) (code : α → Byte) : Prop :=
  ∀ (b : Byte) (x : α), read b.toNat = some x ↔ b = code x

theorem levelOf?_readsBack : ReadsBack levelOf? Level.code := fun b x => by
  rw [← BitVec.toNat_inj]
  generalize b.toNat = n
  match n with
  | 0 | 1 | n + 2 => cases x <;> simp [levelOf?, Level.code]

theorem modeOf?_readsBack : ReadsBack modeOf? Mode.code := fun b x => by
  rw [← BitVec.toNat_inj]
  generalize b.toNat = n
  match n with
  | 0 | 1 | 2 | 3 | n + 4 => cases x <;> simp [modeOf?, Mode.code]

theorem senseOf?_readsBack : ReadsBack senseOf? Sense.code := fun b x => by
  rw [← BitVec.toNat_inj]
  generalize b.toNat = n
  match n with
  | 0 | 1 | 2 | 3 | n + 4 => cases x <;> simp [senseOf?, Sense.code]

theorem failsafeSpecOf?_readsBack : ReadsBack failsafeSpecOf? FailsafeSpec.code := fun b x => by
  rw [← BitVec.toNat_inj]
  generalize b.toNat = n
  match n with
  | 0 | 1 | 2 | 3 | n + 4 => cases x <;> simp [failsafeSpecOf?, FailsafeSpec.code]

theorem targetValueOf?_readsBack : ReadsBack targetValueOf? TargetValue.code := fun b x => by
  rw [← BitVec.toNat_inj]
  generalize b.toNat = n
  match n with
  | 0 | 1 | 2 | 3 | n + 4 => cases x <;> simp [targetValueOf?, TargetValue.code]

theorem edgeChoiceOf?_readsBack : ReadsBack edgeChoiceOf? EdgeChoice.code := fun b x => by
  rw [← BitVec.toNat_inj]
  generalize b.toNat = n
  match n with
  | 0 | 1 | 2 | n + 3 => cases x <;> simp [edgeChoiceOf?, EdgeChoice.code]

theorem policyOf?_readsBack : ReadsBack policyOf? PendingPolicy.code := fun b x => by
  rw [← BitVec.toNat_inj]
  generalize b.toNat = n
  match n with
  | 0 | 1 | n + 2 => cases x <;> simp [policyOf?, PendingPolicy.code]

theorem flagOf?_readsBack : ReadsBack flagOf? flagByte := fun b x => by
  rw [← BitVec.toNat_inj]
  generalize b.toNat = n
  match n with
  | 0 | 1 | n + 2 => cases x <;> simp [flagOf?, flagByte]

/-- A byte holds the number that it is one byte of. -/
theorem oneByte_eq_iff {n : Nat} (h : n < 256) {b : Byte} : b = oneByte n ↔ b.toNat = n := by
  rw [← BitVec.toNat_inj, oneByte_toNat h]

/-- A number below its bound is read back from its one byte. -/
theorem bounded_readsBack {bound : Nat} (h : bound ≤ 256) :
    ReadsBack (fun n => if h : n < bound then some (⟨n, h⟩ : Fin bound) else none)
      fun i => oneByte i.val := fun b i => by
  rw [oneByte_eq_iff (Nat.lt_of_lt_of_le i.isLt h)]
  simp only [Option.dite_none_right_eq_some, Option.some.injEq, Fin.ext_iff]
  exact ⟨fun ⟨_, heq⟩ => heq, fun heq => ⟨heq ▸ i.isLt, heq⟩⟩

theorem lineOf?_readsBack : ReadsBack lineOf? fun i => oneByte i.val := bounded_readsBack (by decide)

theorem slotOf?_readsBack : ReadsBack slotOf? fun k => oneByte k.val := bounded_readsBack (by decide)

theorem classOf?_readsBack : ReadsBack classOf? fun c => oneByte c.val := bounded_readsBack (by decide)

/-! #### Parts of a body -/

theorem slice_length {body : List Byte} {offset width : Nat} (h : offset + width ≤ body.length) :
    (slice body offset width).length = width := by
  rw [slice, List.length_take, List.length_drop]
  omega

/-- A run of bytes is a number's field exactly when the number is read from it. -/
theorem eq_leBytes_iff {bs : List Byte} {width n : Nat} (hlen : bs.length = width) (hn : n < 256 ^ width) :
    bs = leBytes width n ↔ leNat bs = n :=
  ⟨fun h => h ▸ leNat_leBytes width n hn, fun h => by rw [← h, ← hlen, leBytes_leNat]⟩

theorem field_eq_iff {body : List Byte} {offset width n : Nat} (hlen : offset + width ≤ body.length)
    (hn : n < 256 ^ width) : field body offset width = n ↔ slice body offset width = leBytes width n :=
  (eq_leBytes_iff (slice_length hlen) hn).symm

theorem field_lt {body : List Byte} {offset width : Nat} (hlen : offset + width ≤ body.length) :
    field body offset width < 256 ^ width := by
  have h := leNat_lt (slice body offset width)
  rwa [slice_length hlen] at h

theorem field_eq_iff_and {body : List Byte} {offset width n : Nat} (hlen : offset + width ≤ body.length) :
    field body offset width = n ↔ n < 256 ^ width ∧ slice body offset width = leBytes width n :=
  ⟨fun h => have hn := h ▸ field_lt hlen; ⟨hn, (field_eq_iff hlen hn).mp h⟩,
    fun ⟨hn, h⟩ => (field_eq_iff hlen hn).mpr h⟩

theorem leBytes_zero (width : Nat) : leBytes width 0 = List.replicate width 0 := by
  induction width with
  | zero => rfl
  | succ width ih => rw [List.replicate_succ, ← ih]; rfl

theorem zeroAt_iff {body : List Byte} {offset width : Nat} (hlen : offset + width ≤ body.length) :
    zeroAt body offset width = true ↔ slice body offset width = leBytes width 0 := by
  rw [leBytes_zero, List.eq_replicate_iff, and_iff_right (slice_length hlen), zeroAt, List.all_eq_true]
  simp only [beq_iff_eq]

/-- The part of one byte. -/
theorem slice_one {body : List Byte} {offset : Nat} (h : offset < body.length) :
    slice body offset 1 = [body[offset]] := by
  rw [slice, List.drop_eq_getElem_cons h]
  rfl

theorem byteAt_eq {body : List Byte} {offset : Nat} (h : offset < body.length) :
    byteAt body offset = body[offset].toNat := by
  rw [byteAt, List.getD_eq_getElem _ _ h]

theorem ReadsBack.byteAt {α : Type} {read : Nat → Option α} {code : α → Byte} (h : ReadsBack read code)
    {body : List Byte} {offset : Nat} (hlen : offset < body.length) {x : α} :
    read (byteAt body offset) = some x ↔ slice body offset 1 = [code x] := by
  rw [byteAt_eq hlen, h, slice_one hlen, List.cons.injEq, and_iff_left rfl]

theorem byteAt_eq_iff {body : List Byte} {offset n : Nat} (hlen : offset < body.length) (hn : n < 256) :
    byteAt body offset = n ↔ slice body offset 1 = [oneByte n] := by
  rw [byteAt_eq hlen, slice_one hlen, List.cons.injEq, and_iff_left rfl, oneByte_eq_iff hn]

/-- A body from one place on is a part and a rest exactly when its part there is that part, and what follows
that rest. -/
theorem drop_eq_append_iff {body a rest : List Byte} {offset width : Nat} (ha : a.length = width) :
    body.drop offset = a ++ rest ↔
      slice body offset width = a ∧ body.drop (offset + width) = rest := by
  subst ha
  rw [slice, ← List.drop_drop]
  exact ⟨fun h => by rw [h]; exact ⟨List.take_left, List.drop_left⟩,
    fun ⟨hpart, hrest⟩ => by rw [← hrest]; exact (hpart ▸ List.take_append_drop _ _).symm⟩

/-- A part of two parts. -/
theorem slice_eq_append_iff {body a b : List Byte} {offset width more : Nat} (ha : a.length = width)
    (hlen : offset + width ≤ body.length) :
    slice body offset (width + more) = a ++ b ↔
      slice body offset width = a ∧ slice body (offset + width) more = b := by
  have hsplit : slice body offset (width + more) =
      slice body offset width ++ slice body (offset + width) more := by
    rw [slice, slice, slice, List.take_add, List.drop_drop]
  rw [hsplit]
  have hpart : (slice body offset width).length = a.length := (slice_length hlen).trans ha.symm
  exact ⟨fun h => List.append_inj h hpart, fun ⟨h, h'⟩ => by rw [h, h']⟩

/-- A byte and the number behind it. -/
theorem slice_eq_cons_leBytes_iff {body : List Byte} {offset width n : Nat} (b : Byte)
    (hlen : offset + 1 + width ≤ body.length) (hn : n < 256 ^ width) :
    slice body offset (1 + width) = b :: leBytes width n ↔
      byteAt body offset = b.toNat ∧ field body (offset + 1) width = n := by
  have hbyte : offset < body.length := by omega
  rw [field_eq_iff hlen hn, byteAt_eq hbyte, BitVec.toNat_inj]
  exact (slice_eq_append_iff (a := [b]) (b := leBytes width n) (width := 1) rfl hbyte).trans
    (by rw [slice_one hbyte, List.cons.injEq, and_iff_left rfl])

/-! #### Lists of items -/

section
variable {α : Type} {parse : List Byte → Option α} {encode : α → List Byte} {ok : α → Prop} {item : Nat}

theorem allSome_eq_cons {β : Type} {f : β → Option α} {b : β} {bs : List β} {xs : List α} :
    allSome f (b :: bs) = some xs ↔
      ∃ y ys, f b = some y ∧ allSome f bs = some ys ∧ xs = y :: ys := by
  rw [allSome]
  cases f b <;> cases allSome f bs <;> simp [eq_comm]

/-- Items read one behind another are exactly those whose bytes stand one behind another. -/
theorem allSome_chunks
    (hitem : ∀ (b : List Byte) (x : α), b.length = item → (parse b = some x ↔ ok x ∧ b = encode x))
    (henc : ∀ x, (encode x).length = item) {count : Nat} {bs : List Byte} {xs : List α}
    (hlen : item * count ≤ bs.length) :
    allSome parse (chunks item count bs) = some xs ↔
      xs.length = count ∧ (∀ x ∈ xs, ok x) ∧ bs.take (item * count) = xs.flatMap encode := by
  induction count generalizing bs xs with
  | zero => cases xs <;> simp [chunks, allSome]
  | succ count ih =>
    rw [Nat.mul_succ] at hlen ⊢
    have hfirst : (bs.take item).length = item := by rw [List.length_take]; omega
    have hrest : item * count ≤ (bs.drop item).length := by rw [List.length_drop]; omega
    have hsplit : bs.take (item * count + item) = bs.take item ++ (bs.drop item).take (item * count) := by
      rw [Nat.add_comm, List.take_add]
    rw [chunks, allSome_eq_cons]
    cases xs with
    | nil => simp
    | cons x xs =>
      simp only [hitem _ _ hfirst, ih hrest, List.cons.injEq, List.length_cons, List.forall_mem_cons,
        List.flatMap_cons, Nat.add_right_cancel_iff]
      rw [hsplit]
      constructor
      · rintro ⟨_, _, ⟨hx, hb⟩, ⟨hl, hxs, hbs⟩, rfl, rfl⟩
        exact ⟨hl, ⟨hx, hxs⟩, by rw [hb, hbs]⟩
      · rintro ⟨hl, ⟨hx, hxs⟩, heq⟩
        obtain ⟨hb, hbs⟩ := List.append_inj heq (hfirst.trans (henc x).symm)
        exact ⟨x, xs, ⟨hx, hb⟩, ⟨hl, hxs, hbs⟩, rfl, rfl⟩

theorem allSome_chunks_whole
    (hitem : ∀ (b : List Byte) (x : α), b.length = item → (parse b = some x ↔ ok x ∧ b = encode x))
    (henc : ∀ x, (encode x).length = item) {count : Nat} {bs : List Byte} {xs : List α}
    (hlen : bs.length = item * count) :
    allSome parse (chunks item count bs) = some xs ↔
      xs.length = count ∧ (∀ x ∈ xs, ok x) ∧ bs = xs.flatMap encode := by
  rw [allSome_chunks hitem henc (Nat.le_of_eq hlen.symm), ← hlen, List.take_length]

theorem length_flatMap_item (henc : ∀ x, (encode x).length = item) (xs : List α) :
    (xs.flatMap encode).length = item * xs.length := by
  rw [List.length_flatMap, List.map_congr_left (fun x _ => henc x)]
  simp [Nat.mul_comm]

/-- A list of items behind a count byte is read exactly as it is laid out. -/
theorem parseLineList_layout
    (hitem : ∀ (b : List Byte) (x : α), b.length = item → (parse b = some x ↔ ok x ∧ b = encode x))
    (henc : ∀ x, (encode x).length = item) {lineOf : α → LineNo} {body : List Byte} {xs : List α} :
    countedLength body 1 0 item = true ∧ parseLineList item parse lineOf body = some xs ↔
      1 ≤ xs.length ∧ xs.length ≤ 8 ∧ (xs.map lineOf).Nodup ∧ (∀ x ∈ xs, ok x) ∧
        body = oneByte xs.length :: xs.flatMap encode := by
  rw [countedLength_iff, parseLineList_some]
  cases body with
  | nil => simp
  | cons count items =>
    have hlength : (∃ n : Byte, (count :: items)[0]? = some n ∧
        (count :: items).length = 1 + item * n.toNat) ↔ items.length = item * count.toNat := by
      simp [Nat.add_comm 1]
    rw [hlength, List.cons.injEq]
    change _ ∧ (1 ≤ count.toNat ∧ count.toNat ≤ 8) ∧
      allSome parse (chunks item count.toNat items) = some xs ∧ _ ↔ _
    constructor
    · rintro ⟨hlen, ⟨hmin, hmax⟩, hall, hnodup⟩
      obtain ⟨hcount, hok, hbytes⟩ := (allSome_chunks_whole hitem henc hlen).mp hall
      rw [← hcount] at hmin hmax
      exact ⟨hmin, hmax, hnodup, hok, (oneByte_eq_iff (by omega)).mpr hcount.symm, hbytes⟩
    · rintro ⟨hmin, hmax, hnodup, hok, hcount, hbytes⟩
      have hcount := (oneByte_eq_iff (by omega)).mp hcount
      have hlen : items.length = item * count.toNat := by rw [hbytes, hcount, length_flatMap_item henc]
      rw [allSome_chunks_whole hitem henc hlen]
      exact ⟨hlen, by omega, ⟨hcount.symm, hok, hbytes⟩, hnodup⟩

theorem parseLineList_plain
    (hitem : ∀ (b : List Byte) (x : α), b.length = item → (parse b = some x ↔ b = encode x))
    (henc : ∀ x, (encode x).length = item) {lineOf : α → LineNo} {body : List Byte} {xs : List α} :
    countedLength body 1 0 item = true ∧ parseLineList item parse lineOf body = some xs ↔
      1 ≤ xs.length ∧ xs.length ≤ 8 ∧ (xs.map lineOf).Nodup ∧
        body = oneByte xs.length :: xs.flatMap encode := by
  have h := parseLineList_layout (ok := fun _ => True) (lineOf := lineOf) (body := body) (xs := xs)
    (fun b x hb => (hitem b x hb).trans (iff_of_eq (true_and _).symm)) henc
  simpa only [implies_true, true_and] using h

end

/-! #### The items -/

/-- An optional number behind its flag: in range where it is present, and 0 where it is absent. -/
theorem optPositive_layout {isPresent : Bool} {body : List Byte} {offset width : Nat} {n : Option Nat}
    (hlen : offset + width ≤ body.length) :
    optPositive isPresent body offset width = some n ↔ isPresent = n.isSome ∧
      (∀ k ∈ n, 1 ≤ k ∧ k < 256 ^ width) ∧ slice body offset width = leBytes width (n.getD 0) := by
  have hlt := field_lt hlen
  cases isPresent with
  | false => cases n <;> simp [optPositive, zeroAt_iff hlen]
  | true =>
    cases n with
    | none => simp [optPositive]
    | some k =>
      simp only [optPositive, if_true, Option.ite_none_left_eq_some, Option.some.injEq, Option.isSome_some,
        true_and, Option.mem_def, forall_eq', Option.getD_some]
      constructor
      · rintro ⟨hne, rfl⟩
        exact ⟨⟨Nat.pos_of_ne_zero hne, hlt⟩, (field_eq_iff hlen hlt).mp rfl⟩
      · rintro ⟨⟨hpos, hk⟩, hslice⟩
        have hfield := (field_eq_iff hlen hk).mpr hslice
        exact ⟨by omega, hfield⟩

theorem parseConfig_layout {b : List Byte} {c : LineConfig} (h : b.length = 5) :
    parseConfig b = some c ↔ b = c.bytes := by
  match b, h with
  | [b0, b1, b2, b3, b4], _ =>
    obtain ⟨mode, base, cls, sense, spec⟩ := c
    simp only [parseConfig, LineConfig.bytes, Option.bind_eq_bind, Option.bind_eq_some_iff]
    simp [byteAt, modeOf?_readsBack _ _, levelOf?_readsBack _ _, classOf?_readsBack _ _,
      senseOf?_readsBack _ _, failsafeSpecOf?_readsBack _ _]

theorem parseSetting_layout {b : List Byte} {x : LineSetting} (h : b.length = 6) :
    parseSetting b = some x ↔ b = oneByte x.line.val :: x.config.bytes := by
  match b, h with
  | b0 :: config, h =>
    obtain ⟨line, c⟩ := x
    simp only [parseSetting, Option.bind_eq_bind, Option.bind_eq_some_iff, List.drop_succ_cons, List.drop_zero,
      parseConfig_layout (Nat.succ.inj h)]
    simp [byteAt, lineOf?_readsBack _ _]

theorem parseBaseSetting_layout {b : List Byte} {x : BaseSetting} (h : b.length = 2) :
    parseBaseSetting b = some x ↔ b = [oneByte x.line.val, x.level.code] := by
  match b, h with
  | [b0, b1], _ =>
    obtain ⟨line, level⟩ := x
    simp only [parseBaseSetting, Option.bind_eq_bind, Option.bind_eq_some_iff]
    simp [byteAt, lineOf?_readsBack _ _, levelOf?_readsBack _ _]

theorem parseSpecSetting_layout {b : List Byte} {x : SpecSetting} (h : b.length = 2) :
    parseSpecSetting b = some x ↔ b = [oneByte x.line.val, x.spec.code] := by
  match b, h with
  | [b0, b1], _ =>
    obtain ⟨line, spec⟩ := x
    simp only [parseSpecSetting, Option.bind_eq_bind, Option.bind_eq_some_iff]
    simp [byteAt, lineOf?_readsBack _ _, failsafeSpecOf?_readsBack _ _]

theorem parseTarget_layout {b : List Byte} {x : Target} (h : b.length = 2) :
    parseTarget b = some x ↔ b = x.bytes := by
  match b, h with
  | [b0, b1], _ =>
    obtain ⟨line, value⟩ := x
    simp only [parseTarget, Target.bytes, Option.bind_eq_bind, Option.bind_eq_some_iff]
    simp [byteAt, lineOf?_readsBack _ _, targetValueOf?_readsBack _ _]

/-- The bytes of an item of PIN LINES. -/
def PinItem.layout (x : PinItem) : List Byte :=
  [oneByte x.line.val, x.level.code, flagByte x.duration.isSome] ++ leBytes 3 (x.duration.getD 0)

theorem parsePinItem_layout {b : List Byte} {x : PinItem} (h : b.length = 6) :
    parsePinItem b = some x ↔ (∀ d ∈ x.duration, 1 ≤ d ∧ d < 2 ^ 24) ∧ b = x.layout := by
  match b, h with
  | [b0, b1, b2, b3, b4, b5], _ =>
    obtain ⟨line, level, duration⟩ := x
    simp only [parsePinItem, Option.bind_eq_bind, Option.bind_eq_some_iff,
      optPositive_layout (body := [b0, b1, b2, b3, b4, b5]) (offset := 3) (width := 3) (Nat.le_refl 6)]
    simp [byteAt, slice, PinItem.layout, lineOf?_readsBack _ _, levelOf?_readsBack _ _,
      flagOf?_readsBack _ _]
    grind

/-! #### The list requests -/

theorem parseUnpinLines_all {body : List Byte} :
    parseUnpinLines body = some .all ↔ byteAt body 0 = 1 ∧ byteAt body 1 = 0 := by
  unfold parseUnpinLines
  split
  · next h => cases parseLineList 1 (fun b => lineOf? (byteAt b 0)) id (body.drop 1) <;> simp [h]
  · next h => simp [h]
  · next h => exact iff_of_false nofun fun hall => h hall.1

theorem unpinLines_layout {body : List Byte} {is : List LineNo} :
    lengthFits 0x14 body = true ∧ parseUnpinLines body = some (.list is) ↔
      1 ≤ is.length ∧ is.length ≤ 8 ∧ is.Nodup ∧
      body = 0 :: oneByte is.length :: is.map fun i => oneByte i.val := by
  rw [parseUnpinLines_list]
  cases body with
  | nil => exact iff_of_false (fun h => nomatch h.1) (fun h => nomatch h.2.2.2)
  | cons form items =>
    have hlength : lengthFits 0x14 (form :: items) = true ↔ countedLength items 1 0 1 = true := by
      change countedLength (form :: items) 2 1 1 = true ↔ _
      simp only [countedLength_iff, List.getElem?_cons_succ, List.length_cons, Nat.add_right_cancel_iff,
        show ∀ n, 2 + n = 1 + n + 1 from fun n => by omega]
    have hform : byteAt (form :: items) 0 = 0 ↔ form = 0 := by rw [← BitVec.toNat_inj]; rfl
    have hitems := parseLineList_plain (parse := fun b => lineOf? (byteAt b 0)) (lineOf := id)
      (encode := fun i => [oneByte i.val]) (item := 1) (body := items) (xs := is)
      (fun b i hb => by
        match b, hb with
        | [b0], _ => simp [byteAt, lineOf?_readsBack _ _])
      (fun _ => rfl)
    rw [hlength, hform, List.drop_succ_cons, List.drop_zero, and_left_comm, hitems, List.map_id,
      List.map_eq_flatMap, List.cons.injEq]
    tauto

theorem unpinAll_layout {body : List Byte} :
    lengthFits 0x14 body = true ∧ parseUnpinLines body = some .all ↔ body = [1, 0] := by
  rw [parseUnpinLines_all]
  change countedLength body 2 1 1 = true ∧ _ ↔ _
  rw [countedLength_iff]
  match body with
  | [] | [_] => simp
  | form :: count :: items =>
    have hform : byteAt (form :: count :: items) 0 = 1 ↔ form = 1 := by rw [← BitVec.toNat_inj]; rfl
    have hcount : byteAt (form :: count :: items) 1 = 0 ↔ count = 0 := by rw [← BitVec.toNat_inj]; rfl
    rw [hform, hcount]
    simp only [List.cons.injEq]
    constructor
    · rintro ⟨⟨_, hat, hlen⟩, hone, rfl⟩
      cases hat
      exact ⟨hone, rfl, List.length_eq_zero_iff.mp (Nat.add_right_cancel (m := 2) (hlen.trans (by rfl)))⟩
    · rintro ⟨hone, rfl, rfl⟩
      exact ⟨⟨0, rfl, rfl⟩, hone, rfl⟩

/-- The optional start of READ JOURNAL as the number that its field carries. -/
def startNumber (start : Option Serial) : Nat := (start.map BitVec.toNat).getD 0

theorem parseReadJournal_parts {body : List Byte} {count : Nat} {start : Option Serial}
    (hlen : body.length = 6) :
    parseReadJournal body = some (count, start) ↔ (1 ≤ byteAt body 0 ∧ byteAt body 0 ≤ 16) ∧
      byteAt body 0 = count ∧ flagOf? (byteAt body 1) = some start.isSome ∧
      slice body 2 4 = leBytes 4 (startNumber start) := by
  have hfit : 2 + 4 ≤ body.length := by omega
  have hzero := zeroAt_iff hfit
  have hfield : field body 2 4 < 2 ^ 32 := field_lt hfit
  have hstart (q : Serial) : BitVec.ofNat 32 (field body 2 4) = q ↔ slice body 2 4 = leBytes 4 q.toNat := by
    rw [← field_eq_iff hfit q.isLt, ← BitVec.toNat_inj, BitVec.toNat_ofNat, Nat.mod_eq_of_lt hfield]
  unfold parseReadJournal
  dsimp only
  by_cases hcount : 1 ≤ byteAt body 0 ∧ byteAt body 0 ≤ 16
  · rw [if_pos hcount, and_iff_right hcount]
    cases flagOf? (byteAt body 1) with
    | none => simp
    | some flag => cases flag <;> cases start <;> simp [hzero, hstart, startNumber, and_comm]
  · rw [if_neg hcount]
    exact iff_of_false nofun fun h => hcount h.1

theorem readJournal_layout {body : List Byte} {count : Nat} {start : Option Serial} :
    lengthFits 0x20 body = true ∧ parseReadJournal body = some (count, start) ↔
      1 ≤ count ∧ count ≤ 16 ∧
        body = oneByte count :: flagByte start.isSome :: leBytes 4 (startNumber start) := by
  have hlength : lengthFits 0x20 body = true ↔ body.length = 6 := decide_eq_true_iff
  rw [hlength]
  constructor
  · rintro ⟨hlen, hparse⟩
    obtain ⟨⟨hmin, hmax⟩, rfl, hflag, hstart⟩ := (parseReadJournal_parts hlen).mp hparse
    refine ⟨hmin, hmax, ?_⟩
    rw [← hstart]
    match body, hlen with
    | [b0, b1, b2, b3, b4, b5], _ =>
      have hcount : b0 = oneByte b0.toNat := (oneByte_eq_iff b0.isLt).mpr rfl
      rw [← (flagOf?_readsBack b1 _).mp hflag]
      exact congrArg (· :: [b1, b2, b3, b4, b5]) hcount
  · rintro ⟨hmin, hmax, rfl⟩
    have hlen : (oneByte count :: flagByte start.isSome :: leBytes 4 (startNumber start)).length = 6 := by
      simp
    have hcount : byteAt (oneByte count :: flagByte start.isSome :: leBytes 4 (startNumber start)) 0 = count :=
      oneByte_toNat (by omega)
    refine ⟨hlen, (parseReadJournal_parts hlen).mpr ⟨?_, hcount, (flagOf?_readsBack _ _).mpr rfl, rfl⟩⟩
    rw [hcount]
    exact ⟨hmin, hmax⟩

theorem cancelAction_layout {body : List Byte} {id : Nat} {release : Bool} :
    lengthFits 0x31 body = true ∧ parseCancelAction body = some (id, release) ↔
      1 ≤ id ∧ id < 65536 ∧ body = leBytes 2 id ++ [flagByte release] := by
  have hlength : lengthFits 0x31 body = true ↔ body.length = 3 := decide_eq_true_iff
  have hparse : parseCancelAction body = some (id, release) ↔
      flagOf? (byteAt body 2) = some release ∧ field body 0 2 ≠ 0 ∧ field body 0 2 = id := by
    unfold parseCancelAction
    cases flagOf? (byteAt body 2) <;> simp
    grind
  rw [hlength, hparse]
  constructor
  · rintro ⟨hlen, hflag, hne, rfl⟩
    have hlt : field body 0 2 < 65536 := field_lt (by omega)
    refine ⟨Nat.pos_of_ne_zero hne, hlt, ?_⟩
    match body, hlen with
    | [b0, b1, b2], _ =>
      rw [← (field_eq_iff (body := [b0, b1, b2]) (offset := 0) (width := 2) (by simp) hlt).mp rfl,
        ← (flagOf?_readsBack b2 release).mp hflag]
      rfl
  · rintro ⟨hmin, hmax, rfl⟩
    have hfield : field (leBytes 2 id ++ [flagByte release]) 0 2 = id :=
      leNat_leBytes 2 id hmax
    exact ⟨rfl, (flagOf?_readsBack _ release).mpr rfl, by omega, hfield⟩

theorem cancelGroup_layout {body : List Byte} {group : Nat} {release : Bool} :
    lengthFits 0x32 body = true ∧ parseCancelGroup body = some (group, release) ↔
      1 ≤ group ∧ group ≤ 15 ∧ body = [oneByte group, flagByte release] := by
  have hlength : lengthFits 0x32 body = true ↔ body.length = 2 := decide_eq_true_iff
  have hparse : parseCancelGroup body = some (group, release) ↔
      flagOf? (byteAt body 1) = some release ∧ ¬ (byteAt body 0 = 0 ∨ 15 < byteAt body 0) ∧
        byteAt body 0 = group := by
    unfold parseCancelGroup
    cases flagOf? (byteAt body 1) <;> simp
    grind
  rw [hlength, hparse]
  constructor
  · rintro ⟨hlen, hflag, hrange, hgroup⟩
    match body, hlen with
    | [b0, b1], _ =>
      have hgroup : b0.toNat = group := hgroup
      have hrange : ¬ (b0.toNat = 0 ∨ 15 < b0.toNat) := hrange
      rw [(flagOf?_readsBack b1 release).mp hflag, (oneByte_eq_iff (by omega)).mpr hgroup]
      exact ⟨by omega, by omega, rfl⟩
  · rintro ⟨hmin, hmax, rfl⟩
    have hgroup : byteAt [oneByte group, flagByte release] 0 = group := oneByte_toNat (by omega)
    exact ⟨rfl, (flagOf?_readsBack _ release).mpr rfl, by omega, hgroup⟩

end Sys2Proof.Machine
end


/-! ### The body of SUBMIT ACTION, part by part -/

section
set_option Elab.async false
namespace Sys2Proof.Machine

/-! #### The flags byte -/

/-- Seven flags in the bits 0 to 6 of a number. -/
def flagBits (b0 b1 b2 b3 b4 b5 b6 : Bool) : Nat :=
  b0.toNat + 2 * b1.toNat + 4 * b2.toNat + 8 * b3.toNat + 16 * b4.toNat + 32 * b5.toNat + 64 * b6.toNat

theorem testBit_eq_iff {n k : Nat} {b : Bool} : n.testBit k = b ↔ n / 2 ^ k % 2 = b.toNat := by
  rw [Nat.testBit_eq_decide_div_mod_eq]
  have := Nat.mod_two_eq_zero_or_one (n / 2 ^ k)
  cases b <;> simp

/-- A byte with bit 7 clear is the seven flags that its other bits are. -/
theorem testBits_iff {n : Nat} (h : n < 256) {b0 b1 b2 b3 b4 b5 b6 : Bool} :
    (n.testBit 0 = b0 ∧ n.testBit 1 = b1 ∧ n.testBit 2 = b2 ∧ n.testBit 3 = b3 ∧ n.testBit 4 = b4 ∧
      n.testBit 5 = b5 ∧ n.testBit 6 = b6 ∧ n.testBit 7 = false) ↔ n = flagBits b0 b1 b2 b3 b4 b5 b6 := by
  simp only [testBit_eq_iff, flagBits, Bool.toNat_false]
  have h0 := b0.toNat_le
  have h1 := b1.toNat_le
  have h2 := b2.toNat_le
  have h3 := b3.toNat_le
  have h4 := b4.toNat_le
  have h5 := b5.toNat_le
  have h6 := b6.toNat_le
  omega

/-! #### The optional parts -/

/-- Whether a due field is a duration. -/
def DueField.isRelative : Option DueField → Bool
  | some (.relative _) => true
  | _ => false

/-- The bytes of a due field. -/
def DueField.layout : Option DueField → List Byte
  | some (.absolute t) => leBytes 6 t
  | some (.relative d) => leBytes 4 d ++ leBytes 2 0
  | none => leBytes 6 0

/-- A due field whose number fits it. -/
def DueField.fits : Option DueField → Prop
  | some (.absolute t) => t < 2 ^ 48
  | some (.relative d) => d < 2 ^ 32
  | none => True

theorem parseDue_layout {flags : Nat} {body : List Byte} (hlen : 10 ≤ body.length) {due : Option DueField} :
    parseDue flags body = some due ↔ flags.testBit 1 = DueField.isRelative due ∧
      flags.testBit 2 = due.isSome ∧ DueField.fits due ∧ slice body 4 6 = DueField.layout due := by
  have hshort : 4 + 4 ≤ body.length := by omega
  have hlong : 4 + 6 ≤ body.length := hlen
  have hsplit (d : Nat) : slice body 4 6 = leBytes 4 d ++ leBytes 2 0 ↔
      slice body 4 4 = leBytes 4 d ∧ zeroAt body 8 2 = true := by
    rw [zeroAt_iff hlen]
    exact slice_eq_append_iff (more := 2) (leBytes_length 4 d) hshort
  unfold parseDue
  cases flags.testBit 2 <;> cases flags.testBit 1 <;> rcases due with _ | ⟨t⟩ | ⟨t⟩ <;>
    simp [DueField.isRelative, DueField.fits, DueField.layout, zeroAt_iff hlong, field_eq_iff_and hlong,
      field_eq_iff_and hshort, hsplit, and_comm, and_assoc]

/-- The bytes of a guard's mode and wait limit. -/
def GuardMode.layout : GuardMode → List Byte
  | .skip => 0 :: leBytes 3 0
  | .wait limit => 1 :: leBytes 3 limit

/-- A guard mode whose wait limit is in range. -/
def GuardMode.fits : GuardMode → Prop
  | .skip => True
  | .wait limit => 1 ≤ limit ∧ limit < 2 ^ 24

theorem parseGuardMode_skip {mode n : Nat} : parseGuardMode mode n = some .skip ↔ mode = 0 ∧ n = 0 := by
  match mode with
  | 0 | 1 | _ + 2 => simp [parseGuardMode]

theorem parseGuardMode_wait {mode n limit : Nat} :
    parseGuardMode mode n = some (.wait limit) ↔ mode = 1 ∧ 1 ≤ n ∧ n = limit := by
  match mode with
  | 0 | 1 | _ + 2 => simp [parseGuardMode, Nat.one_le_iff_ne_zero]

theorem parseGuardMode_layout {body : List Byte} (hlen : 19 ≤ body.length) {mode : GuardMode} :
    parseGuardMode (byteAt body 15) (field body 16 3) = some mode ↔
      mode.fits ∧ slice body 15 4 = mode.layout := by
  have hlimit : 15 + 1 + 3 ≤ body.length := hlen
  have hlt : field body 16 3 < 2 ^ 24 := field_lt hlimit
  have hsplit (b : Byte) {n : Nat} (hn : n < 2 ^ 24) : slice body 15 4 = b :: leBytes 3 n ↔
      byteAt body 15 = b.toNat ∧ field body 16 3 = n := slice_eq_cons_leBytes_iff b hlimit hn
  cases mode with
  | skip => rw [GuardMode.layout, hsplit 0 (by decide), GuardMode.fits, true_and, parseGuardMode_skip]; rfl
  | wait limit =>
    rw [GuardMode.layout, GuardMode.fits, parseGuardMode_wait]
    constructor
    · rintro ⟨hone, hpos, rfl⟩
      exact ⟨⟨hpos, hlt⟩, (hsplit 1 hlt).mpr ⟨hone, rfl⟩⟩
    · rintro ⟨⟨hpos, hmax⟩, hslice⟩
      obtain ⟨hone, heq⟩ := (hsplit 1 hmax).mp hslice
      exact ⟨hone, heq ▸ hpos, heq⟩

/-- The bytes of the guard part. -/
def guardLayout : Option Guard → List Byte
  | some g => [oneByte g.line.val] ++ ([g.wanted.code] ++ g.mode.layout)
  | none => leBytes 6 0

theorem GuardMode.layout_length (mode : GuardMode) : mode.layout.length = 4 := by cases mode <;> rfl

theorem parseGuard_layout {flags : Nat} {body : List Byte} (hlen : 19 ≤ body.length) {guard : Option Guard} :
    parseGuard flags body = some guard ↔ flags.testBit 4 = guard.isSome ∧ (∀ g ∈ guard, g.mode.fits) ∧
      slice body 13 6 = guardLayout guard := by
  have hzero := zeroAt_iff (body := body) (offset := 13) (width := 6) hlen
  have hsplit (g : Guard) : slice body 13 6 = guardLayout (some g) ↔ slice body 13 1 = [oneByte g.line.val] ∧
      slice body 14 1 = [g.wanted.code] ∧ slice body 15 4 = g.mode.layout := by
    refine (slice_eq_append_iff (width := 1) (more := 5) rfl (by omega)).trans (and_congr_right' ?_)
    exact slice_eq_append_iff (width := 1) (more := 4) rfl (by omega)
  unfold parseGuard
  cases flags.testBit 4 with
  | false => cases guard <;> simp [hzero, guardLayout]
  | true =>
    rw [if_pos rfl]
    simp only [Option.bind_eq_bind, Option.bind_eq_some_iff, lineOf?_readsBack.byteAt (show 13 < body.length by omega),
      levelOf?_readsBack.byteAt (show 14 < body.length by omega), parseGuardMode_layout hlen]
    cases guard with
    | none => simp
    | some g =>
      obtain ⟨line, wanted, mode⟩ := g
      rw [hsplit]
      constructor
      · rintro ⟨_, hline, _, hwanted, _, ⟨hfits, hmode⟩, heq⟩
        cases heq
        exact ⟨rfl, fun _ hg => Option.some.inj hg ▸ hfits, hline, hwanted, hmode⟩
      · rintro ⟨-, hfits, hline, hwanted, hmode⟩
        exact ⟨_, hline, _, hwanted, _, ⟨hfits _ rfl, hmode⟩, rfl⟩

/-- The bytes of the repeat part. -/
def repeatLayout : Option Repeat → List Byte
  | some r => leBytes 4 r.period ++ leBytes 2 r.count
  | none => leBytes 6 0

/-- A repeat whose numbers are in range. -/
def Repeat.fits (r : Repeat) : Prop := 50 ≤ r.period ∧ r.period < 2 ^ 32 ∧ r.count ≠ 1 ∧ r.count < 65536

theorem parseRepeat_layout {flags : Nat} {body : List Byte} (hlen : 25 ≤ body.length) {rep : Option Repeat} :
    parseRepeat flags body = some rep ↔ flags.testBit 5 = rep.isSome ∧ (∀ r ∈ rep, r.fits) ∧
      slice body 19 6 = repeatLayout rep := by
  have hperiod : 19 + 4 ≤ body.length := by omega
  have hcount : 23 + 2 ≤ body.length := hlen
  have hsplit (r : Repeat) : slice body 19 6 = repeatLayout (some r) ↔
      slice body 19 4 = leBytes 4 r.period ∧ slice body 23 2 = leBytes 2 r.count :=
    slice_eq_append_iff (more := 2) (leBytes_length 4 r.period) hperiod
  unfold parseRepeat
  cases flags.testBit 5 with
  | false => cases rep <;> simp [zeroAt_iff (body := body) (offset := 19) (width := 6) hlen, repeatLayout]
  | true =>
    rw [if_pos rfl]
    cases rep with
    | none => simp
    | some r =>
      rw [hsplit]
      have hp := field_eq_iff_and (n := r.period) hperiod
      have hc := field_eq_iff_and (n := r.count) hcount
      obtain ⟨period, count⟩ := r
      simp only [Option.ite_none_right_eq_some, Option.some.injEq, Repeat.mk.injEq, Repeat.fits] at hp hc ⊢
      simp only [Option.isSome_some, true_and, Option.mem_def, Option.some.injEq, forall_eq']
      grind

/-- The bytes of the chain part. -/
def chainLayout : Option Chain → List Byte
  | some c => leBytes 2 c.predecessor ++ leBytes 4 c.offset
  | none => leBytes 6 0

/-- A chain whose numbers are in range. -/
def Chain.fits (c : Chain) : Prop := 1 ≤ c.predecessor ∧ c.predecessor < 65536 ∧ c.offset < 2 ^ 32

theorem parseChain_layout {flags : Nat} {body : List Byte} (hlen : 31 ≤ body.length) {chain : Option Chain} :
    parseChain flags body = some chain ↔ flags.testBit 6 = chain.isSome ∧ (∀ c ∈ chain, c.fits) ∧
      slice body 25 6 = chainLayout chain := by
  have hpred : 25 + 2 ≤ body.length := by omega
  have hoffset : 27 + 4 ≤ body.length := hlen
  have hsplit (c : Chain) : slice body 25 6 = chainLayout (some c) ↔
      slice body 25 2 = leBytes 2 c.predecessor ∧ slice body 27 4 = leBytes 4 c.offset :=
    slice_eq_append_iff (more := 4) (leBytes_length 2 c.predecessor) hpred
  unfold parseChain
  cases flags.testBit 6 with
  | false => cases chain <;> simp [zeroAt_iff (body := body) (offset := 25) (width := 6) hlen, chainLayout]
  | true =>
    rw [if_pos rfl]
    cases chain with
    | none => simp
    | some c =>
      rw [hsplit]
      have hp := field_eq_iff_and (n := c.predecessor) hpred
      have ho := field_eq_iff_and (n := c.offset) hoffset
      obtain ⟨pred, offset⟩ := c
      simp only [Option.ite_none_right_eq_some, Option.some.injEq, Chain.mk.injEq, Chain.fits] at hp ho ⊢
      simp only [Option.isSome_some, true_and, Option.mem_def, Option.some.injEq, forall_eq']
      grind

theorem parseTargets_layout {count : Nat} {bs : List Byte} (hlen : 2 * count ≤ bs.length) {ts : List Target} :
    parseTargets count bs = some ts ↔ ts.length = count ∧ (ts.map (·.line)).Nodup ∧
      bs.take (2 * count) = ts.flatMap Target.bytes := by
  have hall := allSome_chunks (parse := parseTarget) (encode := Target.bytes) (ok := fun _ => True)
    (fun b x hb => by rw [parseTarget_layout hb, true_and]) (fun _ => rfl) hlen (xs := ts)
  simp only [parseTargets, Option.bind_eq_bind, Option.bind_eq_some_iff, Option.ite_none_right_eq_some,
    Option.some.injEq, distinctLines_iff]
  constructor
  · rintro ⟨_, hparse, hnodup, rfl⟩
    obtain ⟨hcount, _, hbytes⟩ := hall.mp hparse
    exact ⟨hcount, hnodup, hbytes⟩
  · rintro ⟨hcount, hnodup, hbytes⟩
    exact ⟨ts, hall.mpr ⟨hcount, fun _ _ => trivial, hbytes⟩, hnodup, rfl⟩

/-! #### The whole body -/

/-- The flags of a submission: in its bit order notify, relative, due, hold, guard, repeat and chain. -/
def Submission.flags (x : Submission) : Nat :=
  flagBits x.action.notify (DueField.isRelative x.due) x.due.isSome x.action.hold.isSome
    x.action.guard.isSome x.action.rep.isSome x.action.chain.isSome

theorem Submission.flags_lt (x : Submission) : x.flags < 128 := by
  unfold Submission.flags flagBits
  have h (b : Bool) := b.toNat_le
  have h0 := h x.action.notify
  have h1 := h (DueField.isRelative x.due)
  have h2 := h x.due.isSome
  have h3 := h x.action.hold.isSome
  have h4 := h x.action.guard.isSome
  have h5 := h x.action.rep.isSome
  have h6 := h x.action.chain.isSome
  omega

/-- The body of SUBMIT ACTION, part behind part. -/
theorem Submission.bytes_eq (x : Submission) : x.bytes =
    leBytes 2 x.action.id ++ ([oneByte x.flags] ++ ([oneByte x.action.group] ++
      (DueField.layout x.due ++ (leBytes 3 (x.action.hold.getD 0) ++ (guardLayout x.action.guard ++
        (repeatLayout x.action.rep ++ (chainLayout x.action.chain ++
          ([oneByte x.action.targets.length] ++ x.action.targets.flatMap Target.bytes)))))))) := by
  have hif (b : Bool) (n : Nat) : (if b = true then n else 0) = n * b.toNat := by cases b <;> simp
  obtain ⟨⟨id, notify, group, targets, hold, guard, rep, chain⟩, due⟩ := x
  simp only [Submission.bytes, List.append_assoc, List.cons_append, List.nil_append, Submission.flags, hif]
  congr 2
  rcases due with _ | ⟨_⟩ | ⟨_⟩ <;> simp [flagBits, DueField.isRelative]

theorem eq_submissionBytes_iff {body : List Byte} {x : Submission} : body = x.bytes ↔
    slice body 0 2 = leBytes 2 x.action.id ∧ slice body 2 1 = [oneByte x.flags] ∧
      slice body 3 1 = [oneByte x.action.group] ∧ slice body 4 6 = DueField.layout x.due ∧
      slice body 10 3 = leBytes 3 (x.action.hold.getD 0) ∧ slice body 13 6 = guardLayout x.action.guard ∧
      slice body 19 6 = repeatLayout x.action.rep ∧ slice body 25 6 = chainLayout x.action.chain ∧
      slice body 31 1 = [oneByte x.action.targets.length] ∧
      body.drop 32 = x.action.targets.flatMap Target.bytes := by
  have hdue : (DueField.layout x.due).length = 6 := by rcases x.due with _ | ⟨_⟩ | ⟨_⟩ <;> rfl
  have hguard : (guardLayout x.action.guard).length = 6 := by
    cases x.action.guard with
    | none => rfl
    | some g => simp [guardLayout, GuardMode.layout_length]
  have hrep : (repeatLayout x.action.rep).length = 6 := by cases x.action.rep <;> rfl
  have hchain : (chainLayout x.action.chain).length = 6 := by cases x.action.chain <;> rfl
  rw [Submission.bytes_eq]
  conv_lhs => rw [← List.drop_zero (l := body)]
  rw [drop_eq_append_iff (leBytes_length 2 _), drop_eq_append_iff (width := 1) rfl, drop_eq_append_iff (width := 1) rfl,
    drop_eq_append_iff hdue, drop_eq_append_iff (leBytes_length 3 _), drop_eq_append_iff hguard,
    drop_eq_append_iff hrep, drop_eq_append_iff hchain, drop_eq_append_iff (width := 1) rfl]

theorem parseSubmit_parts {body : List Byte} {x : Submission} : parseSubmit body = some x ↔
    parseDue (byteAt body 2) body = some x.due ∧
      optPositive ((byteAt body 2).testBit 3) body 10 3 = some x.action.hold ∧
      parseGuard (byteAt body 2) body = some x.action.guard ∧
      parseRepeat (byteAt body 2) body = some x.action.rep ∧
      parseChain (byteAt body 2) body = some x.action.chain ∧
      parseTargets (byteAt body 31) (body.drop 32) = some x.action.targets ∧
      (field body 0 2 ≠ 0 ∧ byteAt body 3 ≤ 15 ∧ ¬ (byteAt body 2).testBit 7 ∧ 1 ≤ byteAt body 31 ∧
        byteAt body 31 ≤ 8 ∧ x.due.isSome = x.action.chain.isNone) ∧
      field body 0 2 = x.action.id ∧ (byteAt body 2).testBit 0 = x.action.notify ∧
      byteAt body 3 = x.action.group := by
  obtain ⟨⟨id, notify, group, targets, hold, guard, rep, chain⟩, due⟩ := x
  simp only [parseSubmit, Option.bind_eq_bind, Option.bind_eq_some_iff, Option.ite_none_right_eq_some,
    Option.some.injEq, Submission.mk.injEq, Action.mk.injEq]
  constructor
  · rintro ⟨_, hdue, _, hhold, _, hguard, _, hrep, _, hchain, _, htargets, hchecks,
      ⟨hid, hnotify, hgroup, rfl, rfl, rfl, rfl, rfl⟩, rfl⟩
    exact ⟨hdue, hhold, hguard, hrep, hchain, htargets, hchecks, hid, hnotify, hgroup⟩
  · rintro ⟨hdue, hhold, hguard, hrep, hchain, htargets, hchecks, hid, hnotify, hgroup⟩
    exact ⟨_, hdue, _, hhold, _, hguard, _, hrep, _, hchain, _, htargets, hchecks,
      ⟨hid, hnotify, hgroup, rfl, rfl, rfl, rfl, rfl⟩, rfl⟩

theorem GuardMode.fits_iff {mode : GuardMode} :
    mode.fits ↔ ∀ limit, mode = .wait limit → 1 ≤ limit ∧ limit < 2 ^ 24 := by
  cases mode with
  | skip => exact iff_of_true trivial nofun
  | wait limit => exact ⟨fun h _ heq => GuardMode.wait.inj heq ▸ h, fun h => h limit rfl⟩

theorem DueField.fits_iff {due : Option DueField} : DueField.fits due ↔
    (∀ t, due = some (.absolute t) → t < 2 ^ 48) ∧ (∀ t, due = some (.relative t) → t < 2 ^ 32) := by
  rcases due with _ | ⟨t⟩ | ⟨t⟩ <;> simp [DueField.fits]

/-- The number of bytes of a body whose targets fill it to its end. -/
theorem submissionBytes_length {body : List Byte} {x : Submission} (h : body = x.bytes) :
    body.length = 32 + 2 * x.action.targets.length := by
  obtain ⟨_, _, _, _, _, _, _, _, hcount, htargets⟩ := eq_submissionBytes_iff.mp h
  have hhead := congrArg List.length hcount
  have htail := congrArg List.length htargets
  rw [length_flatMap_item (item := 2) (fun _ => rfl), List.length_drop] at htail
  rw [slice, List.length_take, List.length_drop, List.length_singleton] at hhead
  omega

theorem lengthFits_submit {body : List Byte} : lengthFits 0x30 body = true ↔
    31 < body.length ∧ body.length = 32 + 2 * byteAt body 31 := by
  change (decide _ && decide _) = true ↔ _
  rw [Bool.and_eq_true, decide_eq_true_iff, decide_eq_true_iff]

theorem submit_layout {body : List Byte} {x : Submission} :
    lengthFits 0x30 body = true ∧ parseSubmit body = some x ↔ x.inRange ∧ body = x.bytes := by
  rw [lengthFits_submit, parseSubmit_parts]
  constructor
  · rintro ⟨⟨hhead, hlen⟩, hdue, hhold, hguard, hrep, hchain, htargets,
      ⟨hid0, hgroup, hbit7, hmin, hmax, hone⟩,
      hid, hnotify, hgroupEq⟩
    obtain ⟨hrel, hduePresent, hdueFits, hdueBytes⟩ := (parseDue_layout (by omega)).mp hdue
    obtain ⟨hholdPresent, hholdFits, hholdBytes⟩ := (optPositive_layout (by omega)).mp hhold
    obtain ⟨hguardPresent, hguardFits, hguardBytes⟩ := (parseGuard_layout (by omega)).mp hguard
    obtain ⟨hrepPresent, hrepFits, hrepBytes⟩ := (parseRepeat_layout (by omega)).mp hrep
    obtain ⟨hchainPresent, hchainFits, hchainBytes⟩ := (parseChain_layout (by omega)).mp hchain
    have hrest : 2 * byteAt body 31 = (body.drop 32).length := by rw [List.length_drop]; omega
    obtain ⟨hcount, hnodup, htargetBytes⟩ := (parseTargets_layout (Nat.le_of_eq hrest)).mp htargets
    obtain ⟨hidMax, hidBytes⟩ := (field_eq_iff_and (by omega)).mp hid
    have hbyte : byteAt body 2 < 256 := BitVec.isLt _
    have hflags : byteAt body 2 = x.flags :=
      (testBits_iff hbyte).mp ⟨hnotify, hrel, hduePresent, hholdPresent, hguardPresent, hrepPresent,
        hchainPresent, Bool.eq_false_iff.mpr hbit7⟩
    rw [hrest, List.take_length] at htargetBytes
    refine ⟨⟨by omega, hidMax, by omega, by omega, by omega, hnodup, hholdFits,
      fun g hg => GuardMode.fits_iff.mp (hguardFits g hg), hrepFits, hchainFits, hone, DueField.fits_iff.mp hdueFits⟩,
      eq_submissionBytes_iff.mpr ⟨hidBytes, ?_, ?_, hdueBytes, hholdBytes, hguardBytes, hrepBytes, hchainBytes,
        ?_, htargetBytes⟩⟩
    · exact (byteAt_eq_iff (by omega) (by omega)).mp hflags
    · exact (byteAt_eq_iff (by omega) (by omega)).mp hgroupEq
    · exact (byteAt_eq_iff (by omega) (by omega)).mp hcount.symm
  · rintro ⟨⟨hid1, hidMax, hgroup, hmin, hmax, hnodup, hholdFits, hguardFits, hrepFits, hchainFits, hone,
      hdueFits⟩, hbytes⟩
    have hlen := submissionBytes_length hbytes
    obtain ⟨hidBytes, hflagBytes, hgroupBytes, hdueBytes, hholdBytes, hguardBytes, hrepBytes, hchainBytes,
      hcountBytes, htargetBytes⟩ := eq_submissionBytes_iff.mp hbytes
    have hflagsLt := x.flags_lt
    have hflags := (byteAt_eq_iff (by omega) (by omega)).mpr hflagBytes
    have hcount := (byteAt_eq_iff (by omega) (by omega)).mpr hcountBytes
    have hgroupEq := (byteAt_eq_iff (by omega) (by omega)).mpr hgroupBytes
    have hid := (field_eq_iff (by omega) hidMax).mpr hidBytes
    obtain ⟨hnotify, hrel, hduePresent, hholdPresent, hguardPresent, hrepPresent, hchainPresent, hbit7⟩ :=
      (testBits_iff (by omega)).mpr hflags
    have hrest : 2 * byteAt body 31 = (body.drop 32).length := by rw [List.length_drop]; omega
    refine ⟨⟨by omega, by omega⟩,
      (parseDue_layout (by omega)).mpr ⟨hrel, hduePresent, DueField.fits_iff.mpr hdueFits, hdueBytes⟩,
      (optPositive_layout (by omega)).mpr ⟨hholdPresent, hholdFits, hholdBytes⟩,
      (parseGuard_layout (by omega)).mpr
        ⟨hguardPresent, fun g hg => GuardMode.fits_iff.mpr (hguardFits g hg), hguardBytes⟩,
      (parseRepeat_layout (by omega)).mpr ⟨hrepPresent, hrepFits, hrepBytes⟩,
      (parseChain_layout (by omega)).mpr ⟨hchainPresent, hchainFits, hchainBytes⟩,
      (parseTargets_layout (Nat.le_of_eq hrest)).mpr ⟨hcount.symm, hnodup, ?_⟩,
      ⟨by omega, by omega, Bool.eq_false_iff.mp hbit7, by omega, by omega, hone⟩, hid, hnotify, hgroupEq⟩
    rw [hrest, List.take_length, htargetBytes]

/-! #### The requests together -/

theorem leBytes_getElem? {width n k : Nat} (h : k < width) :
    (leBytes width n)[k]? = some (BitVec.ofNat 8 (n / 256 ^ k)) := by
  induction width generalizing n k with
  | zero => omega
  | succ width ih =>
    cases k with
    | zero => simp [leBytes]
    | succ k =>
      rw [leBytes, List.getElem?_cons_succ, ih (Nat.lt_of_succ_lt_succ h), Nat.div_div_eq_div_mul, Nat.pow_succ']

theorem leNat_leBytes_mod (width n : Nat) : leNat (leBytes width n) = n % 256 ^ width := by
  induction width generalizing n with
  | zero => simp [leBytes, leNat, Nat.mod_one]
  | succ width ih =>
    rw [leBytes, leNat, ih, BitVec.toNat_ofNat, Nat.pow_succ' (n := width)]
    exact Nat.mod_mul.symm

/-- Settles O55, request by request, each from the parts of its body. -/
theorem requestLayoutsRoundTrip : Obligations.RequestLayoutsRoundTrip := by
  refine ⟨fun n => ⟨rfl, rfl⟩,
    fun width n => ⟨leBytes_length _ _, leNat_leBytes_mod _ _, fun k => leBytes_getElem?⟩,
    fun body xs => ?configure, fun body xs => ?base, fun body xs => ?failsafe, fun body xs => ?pin,
    fun body is => unpinLines_layout, fun body => unpinAll_layout, fun body count start => ?journal,
    fun body id release => cancelAction_layout, fun body group release => cancelGroup_layout,
    fun body x => submit_layout⟩
  case configure => exact parseLineList_plain (fun b x hb => parseSetting_layout hb) fun _ => rfl
  case base => exact parseLineList_plain (fun b x hb => parseBaseSetting_layout hb) fun _ => rfl
  case failsafe => exact parseLineList_plain (fun b x hb => parseSpecSetting_layout hb) fun _ => rfl
  case pin => exact parseLineList_layout (fun b x hb => parsePinItem_layout hb) fun _ => rfl
  case journal => cases start <;> exact readJournal_layout

end Sys2Proof.Machine
end


/-! ### Trigger definitions and profile records, byte for byte -/

section
set_option Elab.async false
namespace Sys2Proof.Machine

/-! #### The parts of a trigger definition -/

theorem parseQualifier_layout {b : List Byte} (hlen : 6 ≤ b.length) {qualifier : Option Qualifier} :
    parseQualifier b = some qualifier ↔ slice b 3 3 = qualifierBytes qualifier := by
  have hflag : 3 < b.length := by omega
  have hrest : 4 + 2 ≤ b.length := hlen
  have hrest' : 4 + 1 ≤ b.length := by omega
  have habsent : slice b 3 3 = qualifierBytes none ↔ flagOf? (byteAt b 3) = some false ∧ zeroAt b 4 2 = true := by
    rw [flagOf?_readsBack.byteAt hflag, zeroAt_iff hrest]
    exact slice_eq_append_iff (a := [0]) (more := 2) rfl hflag
  have hpresent (q : Qualifier) : slice b 3 3 = qualifierBytes (some q) ↔ flagOf? (byteAt b 3) = some true ∧
      slice b 4 1 = [oneByte q.line.val] ∧ slice b 5 1 = [q.level.code] := by
    rw [flagOf?_readsBack.byteAt hflag]
    exact (slice_eq_append_iff (a := [1]) (b := [oneByte q.line.val, q.level.code]) (more := 2) rfl hflag).trans
      (and_congr_right' (slice_eq_append_iff (a := [oneByte q.line.val]) (width := 1) (more := 1) rfl hrest'))
  unfold parseQualifier
  cases qualifier with
  | none =>
    rw [habsent]
    rcases flagOf? (byteAt b 3) with _ | _ | _ <;> simp [Option.bind_eq_some_iff]
  | some q =>
    obtain ⟨line, level⟩ := q
    rw [hpresent, ← lineOf?_readsBack.byteAt (by omega), ← levelOf?_readsBack.byteAt (by omega)]
    rcases flagOf? (byteAt b 3) with _ | _ | _ <;> simp [Option.bind_eq_some_iff]

/-- A trigger mode whose holdoff is in range. -/
def TriggerMode.fits (mode : TriggerMode) : Prop := ∀ h, mode = .rearm h → h < 2 ^ 24

theorem parseTriggerMode_oneshot {mode holdoff : Nat} :
    parseTriggerMode mode holdoff = some .oneshot ↔ mode = 0 ∧ holdoff = 0 := by
  match mode with
  | 0 | 1 | _ + 2 => simp [parseTriggerMode]

theorem parseTriggerMode_rearm {mode holdoff h : Nat} :
    parseTriggerMode mode holdoff = some (.rearm h) ↔ mode = 1 ∧ holdoff = h := by
  match mode with
  | 0 | 1 | _ + 2 => simp [parseTriggerMode]

theorem parseTriggerMode_layout {b : List Byte} (hlen : 14 ≤ b.length) {mode : TriggerMode} :
    parseTriggerMode (byteAt b 10) (field b 11 3) = some mode ↔ mode.fits ∧ slice b 10 4 = mode.bytes := by
  have hholdoff : 10 + 1 + 3 ≤ b.length := hlen
  have hlt : field b 11 3 < 2 ^ 24 := field_lt hholdoff
  have hsplit (x : Byte) {n : Nat} (hn : n < 2 ^ 24) : slice b 10 4 = x :: leBytes 3 n ↔
      byteAt b 10 = x.toNat ∧ field b 11 3 = n := slice_eq_cons_leBytes_iff x hholdoff hn
  cases mode with
  | oneshot =>
    rw [TriggerMode.bytes, hsplit 0 (by decide), parseTriggerMode_oneshot]
    exact ⟨fun h => ⟨nofun, h⟩, fun h => h.2⟩
  | rearm holdoff =>
    rw [TriggerMode.bytes, parseTriggerMode_rearm]
    constructor
    · rintro ⟨hone, rfl⟩
      exact ⟨fun _ heq => TriggerMode.rearm.inj heq ▸ hlt, (hsplit 1 hlt).mpr ⟨hone, rfl⟩⟩
    · rintro ⟨hfits, hslice⟩
      exact (hsplit 1 (hfits holdoff rfl)).mp hslice

theorem optHold_layout {b : List Byte} (hlen : 18 ≤ b.length) {hold : Option Nat} :
    (∃ isPresent, flagOf? (byteAt b 14) = some isPresent ∧ optPositive isPresent b 15 3 = some hold) ↔
      (∀ h ∈ hold, 1 ≤ h ∧ h < 2 ^ 24) ∧ slice b 14 4 = optHoldBytes hold := by
  have hflag : 14 < b.length := by omega
  have hbytes : optHoldBytes hold = [flagByte hold.isSome] ++ leBytes 3 (hold.getD 0) := by
    cases hold <;> rfl
  rw [hbytes, slice_eq_append_iff (width := 1) (more := 3) rfl hflag, ← flagOf?_readsBack.byteAt hflag]
  simp only [optPositive_layout (show 15 + 3 ≤ b.length from hlen)]
  constructor
  · rintro ⟨_, hpresent, rfl, hfits, hnumber⟩
    exact ⟨hfits, hpresent, hnumber⟩
  · rintro ⟨hfits, hpresent, hnumber⟩
    exact ⟨_, hpresent, rfl, hfits, hnumber⟩

theorem length_targetBytes (ts : List Target) : (ts.flatMap Target.bytes).length = 2 * ts.length :=
  length_flatMap_item (encode := Target.bytes) (fun _ => rfl) ts

theorem targetPlaces_eq {ts : List Target} (h : ts.length ≤ 4) :
    targetPlaces ts = ts.flatMap Target.bytes ++ leBytes (8 - 2 * ts.length) 0 := by
  have hlen := length_targetBytes ts
  rw [targetPlaces, List.take_append, List.take_of_length_le (by omega), hlen, leBytes_zero, leBytes_zero,
    List.take_replicate, Nat.min_eq_left (by omega)]

/-- The four places hold the targets one behind another, and 0 behind them. -/
theorem parseTargetPlaces_layout {b : List Byte} (hlen : b.length = 29) {ts : List Target} :
    parseTargetPlaces b = some ts ↔ ts.length ≤ 4 ∧ (ts.map (·.line)).Nodup ∧
      slice b 20 1 = [oneByte ts.length] ∧ slice b 21 8 = targetPlaces ts := by
  have hwhole : (slice b 21 8).length = 8 := slice_length (by omega)
  have hfit {n : Nat} (hn : n ≤ 4) : slice b 21 8 = slice b 21 (2 * n + (8 - 2 * n)) := by
    rw [Nat.add_sub_cancel' (by omega)]
  have hplaces (hts : ts.length ≤ 4) : slice b 21 8 = targetPlaces ts ↔
      (slice b 21 8).take (2 * ts.length) = ts.flatMap Target.bytes ∧
        zeroAt b (21 + 2 * ts.length) (8 - 2 * ts.length) = true := by
    rw [targetPlaces_eq hts, zeroAt_iff (by omega), slice, List.take_take, Nat.min_eq_left (by omega)]
    exact (iff_of_eq (congrArg (· = _) (hfit hts))).trans
      (slice_eq_append_iff (length_targetBytes ts) (by omega))
  have hcount (hts : ts.length ≤ 4) := byteAt_eq_iff (body := b) (offset := 20) (n := ts.length) (by omega) (by omega)
  unfold parseTargetPlaces
  dsimp only
  rw [Option.ite_none_right_eq_some]
  constructor
  · rintro ⟨⟨hmax, hzero⟩, hparse⟩
    obtain ⟨hts, hnodup, hbytes⟩ := (parseTargets_layout (by omega)).mp hparse
    rw [← hts] at hmax hzero hbytes
    exact ⟨hmax, hnodup, (hcount hmax).mp hts.symm, (hplaces hmax).mpr ⟨hbytes, hzero⟩⟩
  · rintro ⟨hmax, hnodup, hcountByte, hbytes⟩
    have hts := (hcount hmax).mpr hcountByte
    obtain ⟨hbytes, hzero⟩ := (hplaces hmax).mp hbytes
    rw [hts]
    exact ⟨⟨hmax, hzero⟩, (parseTargets_layout (by omega)).mpr ⟨rfl, hnodup, hbytes⟩⟩

/-! #### The definition -/

theorem TriggerDef.bytes_eq (k : SlotNo) (d : TriggerDef) : d.bytes k =
    [oneByte k.val] ++ ([oneByte d.watched.val] ++ ([d.edge.code] ++ (qualifierBytes d.qualifier ++
      (leBytes 3 d.delay ++ ([d.policy.code] ++ (d.mode.bytes ++ (optHoldBytes d.hold ++
        ([oneByte d.cancelGroup] ++ ([flagByte d.notify] ++ ([oneByte d.targets.length] ++
          (targetPlaces d.targets ++ []))))))))))) := by
  simp [TriggerDef.bytes]

theorem eq_triggerBytes_iff {b : List Byte} (hlen : b.length = 29) {k : SlotNo} {d : TriggerDef} :
    b = d.bytes k ↔ slice b 0 1 = [oneByte k.val] ∧ slice b 1 1 = [oneByte d.watched.val] ∧
      slice b 2 1 = [d.edge.code] ∧ slice b 3 3 = qualifierBytes d.qualifier ∧
      slice b 6 3 = leBytes 3 d.delay ∧ slice b 9 1 = [d.policy.code] ∧ slice b 10 4 = d.mode.bytes ∧
      slice b 14 4 = optHoldBytes d.hold ∧ slice b 18 1 = [oneByte d.cancelGroup] ∧
      slice b 19 1 = [flagByte d.notify] ∧ slice b 20 1 = [oneByte d.targets.length] ∧
      slice b 21 8 = targetPlaces d.targets := by
  have hqualifier : (qualifierBytes d.qualifier).length = 3 := by cases d.qualifier <;> rfl
  have hmode : d.mode.bytes.length = 4 := by cases d.mode <;> rfl
  have hhold : (optHoldBytes d.hold).length = 4 := by cases d.hold <;> rfl
  have hplaces : (targetPlaces d.targets).length = 8 := by simp [targetPlaces]
  rw [TriggerDef.bytes_eq]
  conv_lhs => rw [← List.drop_zero (l := b)]
  rw [drop_eq_append_iff (width := 1) rfl, drop_eq_append_iff (width := 1) rfl, drop_eq_append_iff (width := 1) rfl,
    drop_eq_append_iff hqualifier, drop_eq_append_iff (leBytes_length 3 _), drop_eq_append_iff (width := 1) rfl,
    drop_eq_append_iff hmode, drop_eq_append_iff hhold, drop_eq_append_iff (width := 1) rfl,
    drop_eq_append_iff (width := 1) rfl, drop_eq_append_iff (width := 1) rfl, drop_eq_append_iff hplaces,
    List.drop_eq_nil_of_le (Nat.le_of_eq hlen)]
  simp only [and_true]

theorem TriggerDef.bytes_length (k : SlotNo) (d : TriggerDef) : (d.bytes k).length = 29 := by
  have hqualifier : (qualifierBytes d.qualifier).length = 3 := by cases d.qualifier <;> rfl
  have hmode : d.mode.bytes.length = 4 := by cases d.mode <;> rfl
  have hhold : (optHoldBytes d.hold).length = 4 := by cases d.hold <;> rfl
  have hplaces : (targetPlaces d.targets).length = 8 := by simp [targetPlaces]
  simp [TriggerDef.bytes, hqualifier, hmode, hhold, hplaces]

theorem parseTriggerDef_parts {b : List Byte} {k : SlotNo} {d : TriggerDef} :
    parseTriggerDef b = some (k, d) ↔ slotOf? (byteAt b 0) = some k ∧ lineOf? (byteAt b 1) = some d.watched ∧
      edgeChoiceOf? (byteAt b 2) = some d.edge ∧ parseQualifier b = some d.qualifier ∧
      policyOf? (byteAt b 9) = some d.policy ∧
      parseTriggerMode (byteAt b 10) (field b 11 3) = some d.mode ∧
      (∃ isPresent, flagOf? (byteAt b 14) = some isPresent ∧ optPositive isPresent b 15 3 = some d.hold) ∧
      flagOf? (byteAt b 19) = some d.notify ∧ parseTargetPlaces b = some d.targets ∧
      (byteAt b 18 ≤ 15 ∧ ¬ (d.targets = [] ∧ byteAt b 18 = 0 ∧ d.notify = false)) ∧
      field b 6 3 = d.delay ∧ byteAt b 18 = d.cancelGroup := by
  obtain ⟨watched, edge, qualifier, delay, policy, mode, targets, hold, group, notify⟩ := d
  simp only [parseTriggerDef, Option.bind_eq_bind, Option.bind_eq_some_iff, Option.ite_none_right_eq_some,
    Option.some.injEq, Prod.mk.injEq, TriggerDef.mk.injEq]
  constructor
  · rintro ⟨_, hslot, _, hwatched, _, hedge, _, hqualifier, _, hpolicy, _, hmode, isPresent, hpresent, _, hhold,
      _, hnotify, _, htargets, hchecks, rfl, rfl, rfl, rfl, hdelay, rfl, rfl, rfl, rfl, hgroup, rfl⟩
    exact ⟨hslot, hwatched, hedge, hqualifier, hpolicy, hmode, ⟨_, hpresent, hhold⟩, hnotify, htargets, hchecks,
      hdelay, hgroup⟩
  · rintro ⟨hslot, hwatched, hedge, hqualifier, hpolicy, hmode, ⟨_, hpresent, hhold⟩, hnotify, htargets, hchecks,
      hdelay, hgroup⟩
    exact ⟨_, hslot, _, hwatched, _, hedge, _, hqualifier, _, hpolicy, _, hmode, _, hpresent, _, hhold,
      _, hnotify, _, htargets, hchecks, rfl, rfl, rfl, rfl, hdelay, rfl, rfl, rfl, rfl, hgroup, rfl⟩

theorem triggerDef_layout {b : List Byte} (hlen : b.length = 29) {k : SlotNo} {d : TriggerDef} :
    parseTriggerDef b = some (k, d) ↔ d.inRange ∧ b = d.bytes k := by
  have hgroupByte {n : Nat} (h : n < 256) := byteAt_eq_iff (body := b) (offset := 18) (by omega) h
  rw [parseTriggerDef_parts, eq_triggerBytes_iff hlen, slotOf?_readsBack.byteAt (by omega),
    lineOf?_readsBack.byteAt (by omega), edgeChoiceOf?_readsBack.byteAt (by omega), parseQualifier_layout (by omega),
    policyOf?_readsBack.byteAt (by omega), parseTriggerMode_layout (by omega), optHold_layout (by omega),
    flagOf?_readsBack.byteAt (by omega), parseTargetPlaces_layout hlen, field_eq_iff_and (by omega)]
  constructor
  · rintro ⟨hslot, hwatched, hedge, hqualifier, hpolicy, ⟨hmode, hmodeBytes⟩, ⟨hhold, hholdBytes⟩, hnotify,
      ⟨hcount, hnodup, hcountByte, hplaces⟩, ⟨hgroupMax, hsome⟩, ⟨hdelay, hdelayBytes⟩, hgroup⟩
    rw [hgroup] at hgroupMax hsome
    exact ⟨⟨hdelay, hmode, hhold, hgroupMax, hcount, hnodup, hsome⟩, hslot, hwatched, hedge, hqualifier,
      hdelayBytes, hpolicy, hmodeBytes, hholdBytes, (hgroupByte (by omega)).mp hgroup, hnotify, hcountByte, hplaces⟩
  · rintro ⟨⟨hdelay, hmode, hhold, hgroupMax, hcount, hnodup, hsome⟩, hslot, hwatched, hedge, hqualifier,
      hdelayBytes, hpolicy, hmodeBytes, hholdBytes, hgroupBytes, hnotify, hcountByte, hplaces⟩
    have hgroup := (hgroupByte (by omega)).mpr hgroupBytes
    rw [hgroup]
    exact ⟨hslot, hwatched, hedge, hqualifier, hpolicy, ⟨hmode, hmodeBytes⟩, ⟨hhold, hholdBytes⟩, hnotify,
      ⟨hcount, hnodup, hcountByte, hplaces⟩, ⟨hgroupMax, hsome⟩, ⟨hdelay, hdelayBytes⟩, rfl⟩

/-! #### Profile records -/

/-- The body length that the kind of a record asks for. -/
def recordFits (kind : Byte) (body : List Byte) : Prop :=
  (kind = 1 → ∃ count : Byte, body[1]? = some count ∧ body.length = 2 + 5 * count.toNat) ∧
  (kind = 2 → body.length = 8) ∧ (kind = 3 → body.length = 2) ∧ (kind = 4 → body.length = 30) ∧
  (kind = 5 → 1 ≤ body.length ∧ body.length ≤ 32)

theorem lengthFits_record {body : List Byte} : lengthFits 0x51 body = true ↔
    ∃ kind len rest, body = kind :: len :: rest ∧ rest.length = len.toNat ∧ recordFits kind rest := by
  rw [lengthFits_append]
  refine exists₃_congr fun kind len rest => and_congr_right fun _ => and_congr_right fun hlen => ?_
  have h8 : len = 8 ↔ rest.length = 8 := hlen ▸ oneByte_eq_iff (by decide)
  have h2 : len = 2 ↔ rest.length = 2 := hlen ▸ oneByte_eq_iff (by decide)
  have h30 : len = 30 ↔ rest.length = 30 := hlen ▸ oneByte_eq_iff (by decide)
  rw [recordFits, h8, h2, h30, hlen]

theorem linesRecord_layout {b : List Byte} {r : ProfileRecord}
    (hlen : ∃ count : Byte, b[1]? = some count ∧ b.length = 2 + 5 * count.toNat) :
    parseLinesRecord b = some r ↔ r.inRange ∧ 1 = r.kind ∧ b = r.body := by
  obtain ⟨count, hat, hlen⟩ := hlen
  match b, hat with
  | first :: _ :: rest, rfl =>
    have hrest : rest.length = 5 * count.toNat := by simp only [List.length_cons] at hlen; omega
    have hconfigs (cs : List LineConfig) : allSome parseConfig (chunks 5 count.toNat rest) = some cs ↔
        cs.length = count.toNat ∧ rest = cs.flatMap LineConfig.bytes := by
      rw [allSome_chunks_whole (encode := LineConfig.bytes) (ok := fun _ => True)
        (fun b x hb => by rw [parseConfig_layout hb, true_and]) (fun _ => rfl) hrest]
      simp only [implies_true, true_and]
    have hparse : parseLinesRecord (first :: count :: rest) = some r ↔ ∃ i, first = oneByte i.val ∧ ∃ cs,
        (cs.length = count.toNat ∧ rest = cs.flatMap LineConfig.bytes) ∧
        (1 ≤ count.toNat ∧ count.toNat ≤ 8 ∧ i.val + count.toNat ≤ 40) ∧ .lines i cs = r := by
      simp only [parseLinesRecord, Option.bind_eq_bind, Option.bind_eq_some_iff, Option.ite_none_right_eq_some,
        Option.some.injEq, ← hconfigs, ← lineOf?_readsBack first]
      rfl
    rw [hparse]
    constructor
    · rintro ⟨i, rfl, cs, ⟨hcount, rfl⟩, hrange, rfl⟩
      rw [← hcount] at hrange
      exact ⟨hrange, rfl, by rw [ProfileRecord.body, ← (oneByte_eq_iff (by omega)).mpr hcount.symm]⟩
    · rintro ⟨hrange, hkind, hbody⟩
      cases r with
      | lines i cs =>
        obtain ⟨hmin, hmax, hlast⟩ := hrange
        obtain ⟨hfirst, hcountByte, hbytes⟩ : first = oneByte i.val ∧ count = oneByte cs.length ∧
          rest = cs.flatMap LineConfig.bytes := by simpa [ProfileRecord.body] using hbody
        have hcount := (oneByte_eq_iff (by omega)).mp hcountByte
        exact ⟨i, hfirst, cs, ⟨hcount.symm, hbytes⟩, by omega, rfl⟩
      | filters | journal | trigger | label => simp [ProfileRecord.kind] at hkind

theorem settleTimesBytes_parse {b : List Byte} (hlen : b.length = 8) :
    settleTimesBytes (parseSettleTimes b) = b := by
  have hpart {k : Nat} (h : k + 2 ≤ b.length) : leBytes 2 (field b k 2) = slice b k 2 :=
    ((field_eq_iff h (field_lt h)).mp rfl).symm
  rw [settleTimesBytes_eq]
  change leBytes 2 (field b 0 2) ++ leBytes 2 (field b 2 2) ++ leBytes 2 (field b 4 2) ++ leBytes 2 (field b 6 2) = b
  rw [hpart (by omega), hpart (by omega), hpart (by omega), hpart (by omega)]
  match b, hlen with
  | [_, _, _, _, _, _, _, _], _ => rfl

theorem filtersRecord_layout {b : List Byte} (hlen : b.length = 8) {r : ProfileRecord} :
    some (.filters (parseSettleTimes b)) = some r ↔ r.inRange ∧ 2 = r.kind ∧ b = r.body := by
  have hbound : ∀ c : Fin 4, (parseSettleTimes b)[c] < 65536
    | 0 | 1 | 2 | 3 => field_lt (by omega)
  rw [Option.some.injEq]
  constructor
  · rintro rfl
    exact ⟨hbound, rfl, (settleTimesBytes_parse hlen).symm⟩
  · rintro ⟨hrange, hkind, rfl⟩
    cases r with
    | filters times => exact congrArg _ (parseSettleTimes_settleTimesBytes times hrange)
    | lines | journal | trigger | label => simp [ProfileRecord.kind] at hkind

theorem journalRecord_layout {b : List Byte} (hlen : b.length = 2) {r : ProfileRecord} :
    (parseThreshold b).map .journal = some r ↔ r.inRange ∧ 3 = r.kind ∧ b = r.body := by
  have hthreshold (t : Nat) : parseThreshold b = some t ↔ (1 ≤ t ∧ t ≤ 256) ∧ field b 0 2 = t := by
    unfold parseThreshold
    dsimp only
    rw [Option.ite_none_right_eq_some, Option.some.injEq]
    exact ⟨fun ⟨h, heq⟩ => ⟨heq ▸ h, heq⟩, fun ⟨h, heq⟩ => ⟨heq.symm ▸ h, heq⟩⟩
  simp only [Option.map_eq_some_iff, hthreshold, field_whole hlen]
  constructor
  · rintro ⟨t, ⟨hrange, ht⟩, rfl⟩
    exact ⟨hrange, rfl, (eq_leBytes_iff hlen (by omega)).mpr ht⟩
  · rintro ⟨hrange, hkind, hbody⟩
    cases r with
    | journal t =>
      obtain ⟨hmin, hmax⟩ := hrange
      exact ⟨t, ⟨⟨hmin, hmax⟩, (eq_leBytes_iff hlen (by omega)).mp hbody⟩, rfl⟩
    | lines | filters | trigger | label => simp [ProfileRecord.kind] at hkind

theorem triggerRecord_layout {b : List Byte} (hlen : b.length = 30) {r : ProfileRecord} :
    parseTriggerRecord b = some r ↔ r.inRange ∧ 4 = r.kind ∧ b = r.body := by
  have hdef : (b.take 29).length = 29 := by rw [List.length_take]; omega
  have hbody (k : SlotNo) (d : TriggerDef) (arm : Bool) : b = d.bytes k ++ [flagByte arm] ↔
      b.take 29 = d.bytes k ∧ slice b 29 1 = [flagByte arm] := by
    have hlast : slice b 29 1 = b.drop 29 := List.take_of_length_le (by rw [List.length_drop]; omega)
    have h := drop_eq_append_iff (body := b) (offset := 0) (rest := [flagByte arm]) (d.bytes_length k)
    rwa [List.drop_zero, Nat.zero_add, ← hlast] at h
  have hparse : parseTriggerRecord b = some r ↔ ∃ k d arm,
      (d.inRange ∧ b = d.bytes k ++ [flagByte arm]) ∧ .trigger k d arm = r := by
    simp only [parseTriggerRecord, Option.bind_eq_bind, Option.bind_eq_some_iff, Prod.exists, triggerDef_layout hdef,
      hbody, flagOf?_readsBack.byteAt (show 29 < b.length by omega), Option.some.injEq]
    constructor
    · rintro ⟨k, d, ⟨hrange, hbytes⟩, arm, harm, heq⟩
      exact ⟨k, d, arm, ⟨hrange, hbytes, harm⟩, heq⟩
    · rintro ⟨k, d, arm, ⟨hrange, hbytes, harm⟩, heq⟩
      exact ⟨k, d, ⟨hrange, hbytes⟩, arm, harm, heq⟩
  rw [hparse]
  constructor
  · rintro ⟨k, d, arm, ⟨hrange, hbytes⟩, rfl⟩
    exact ⟨hrange, rfl, hbytes⟩
  · rintro ⟨hrange, hkind, hbody⟩
    cases r with
    | trigger k d arm => exact ⟨k, d, arm, ⟨hrange, hbody⟩, rfl⟩
    | lines | filters | journal | label => simp [ProfileRecord.kind] at hkind

theorem labelRecord_layout {b : List Byte} {r : ProfileRecord} :
    (if 1 ≤ b.length ∧ b.length ≤ 32 ∧ b.all printable then some (ProfileRecord.label b) else none) = some r ↔
      r.inRange ∧ 5 = r.kind ∧ b = r.body := by
  rw [Option.ite_none_right_eq_some, Option.some.injEq]
  constructor
  · rintro ⟨hrange, rfl⟩
    exact ⟨by simpa [printable, ProfileRecord.inRange] using hrange, rfl, rfl⟩
  · rintro ⟨hrange, hkind, rfl⟩
    cases r with
    | label characters => exact ⟨by simpa [printable, ProfileRecord.inRange, ProfileRecord.body] using hrange, rfl⟩
    | lines | filters | journal | trigger => simp [ProfileRecord.kind] at hkind

/-- A record is read, by its kind, as exactly the record whose body it carries. -/
theorem parseRecordBody_layout {kind : Byte} {b : List Byte} (hfits : recordFits kind b) {r : ProfileRecord} :
    parseRecordBody kind.toNat b = some r ↔ r.inRange ∧ kind = r.kind ∧ b = r.body := by
  obtain ⟨hlines, hfilters, hjournal, htrigger, _⟩ := hfits
  by_cases h1 : kind = 1
  · subst h1; exact linesRecord_layout (hlines rfl)
  by_cases h2 : kind = 2
  · subst h2; exact filtersRecord_layout (hfilters rfl)
  by_cases h3 : kind = 3
  · subst h3; exact journalRecord_layout (hjournal rfl)
  by_cases h4 : kind = 4
  · subst h4; exact triggerRecord_layout (htrigger rfl)
  by_cases h5 : kind = 5
  · subst h5; exact labelRecord_layout
  refine iff_of_false ?_ ?_
  · rw [← BitVec.toNat_inj] at h1 h2 h3 h4 h5
    unfold parseRecordBody
    split
    all_goals simp_all
  · rintro ⟨_, rfl, _⟩
    cases r <;> simp [ProfileRecord.kind] at h1 h2 h3 h4 h5

/-- A record in range has the length that its kind asks for, and its length fits a byte. -/
theorem ProfileRecord.body_fits {r : ProfileRecord} (h : r.inRange) :
    recordFits r.kind r.body ∧ r.body.length < 256 := by
  cases r with
  | lines first configs =>
    obtain ⟨hmin, hmax, hlast⟩ := h
    have hlen : (configs.flatMap LineConfig.bytes).length = 5 * configs.length :=
      length_flatMap_item (encode := LineConfig.bytes) (fun _ => rfl) configs
    have hcount := oneByte_toNat (n := configs.length) (by omega)
    simp [recordFits, ProfileRecord.kind, ProfileRecord.body, hlen, hcount]
    omega
  | filters times => simp [recordFits, ProfileRecord.kind, ProfileRecord.body]
  | journal threshold => simp [recordFits, ProfileRecord.kind, ProfileRecord.body]
  | trigger k d arm => simp [recordFits, ProfileRecord.kind, ProfileRecord.body, TriggerDef.bytes_length]
  | label characters =>
    obtain ⟨hmin, hmax, hprintable⟩ := h
    simp [recordFits, ProfileRecord.kind, ProfileRecord.body, hmin, hmax]
    omega

theorem appendRecord_layout {body : List Byte} {r : ProfileRecord} :
    lengthFits 0x51 body = true ∧ parseAppendRecord body = some r ↔ r.inRange ∧ body = r.bytes := by
  rw [lengthFits_record]
  constructor
  · rintro ⟨⟨kind, len, rest, rfl, hlen, hfits⟩, hparse⟩
    obtain ⟨hrange, rfl, rfl⟩ := (parseRecordBody_layout hfits).mp hparse
    refine ⟨hrange, congrArg (r.kind :: · :: r.body) ?_⟩
    exact (oneByte_eq_iff (ProfileRecord.body_fits hrange).2).mpr hlen.symm
  · rintro ⟨hrange, rfl⟩
    obtain ⟨hfits, hlt⟩ := ProfileRecord.body_fits hrange
    exact ⟨⟨r.kind, _, r.body, rfl, (oneByte_toNat hlt).symm, hfits⟩,
      (parseRecordBody_layout hfits).mpr ⟨hrange, rfl, rfl⟩⟩

/-- Settles O56, by the parts of a definition and the kinds of a record. -/
theorem recordLayoutsRoundTrip : Obligations.RecordLayoutsRoundTrip := by
  refine ⟨rfl, fun k d => ?_, fun r => ⟨r.kind, r.body, rfl, ?_⟩, fun body k d => ?_, fun body r =>
    appendRecord_layout⟩
  · rw [TriggerDef.bytes, targetPlaces, leBytes_zero]
    obtain ⟨watched, edge, qualifier, delay, policy, mode, targets, hold, group, notify⟩ := d
    simp only [List.append_assoc, List.cons_append, List.nil_append]
    cases qualifier <;> cases mode <;> cases hold <;> rfl
  · cases r with
    | filters times => exact congrArg (Prod.mk _) (settleTimesBytes_eq times)
    | lines | journal | trigger | label => rfl
  · constructor
    · rintro ⟨hlen, hparse⟩
      exact (triggerDef_layout (of_decide_eq_true hlen)).mp hparse
    · rintro ⟨hrange, rfl⟩
      have hlen := d.bytes_length k
      exact ⟨decide_eq_true hlen, (triggerDef_layout hlen).mpr ⟨hrange, rfl⟩⟩

end Sys2Proof.Machine
end


/-! ### The events whose time has come, and the idle step -/

section
set_option Elab.async false
namespace Sys2Proof.Machine

variable {s : State} {e : Instr}

/-! #### The lists of due events -/

/-- A command with a frame is the one that its frame is read as, when it is a request of the 40 kinds or its kind is
none of theirs. -/
theorem Instr.eq_ofFrame {c : Instr} {f : Frame} (hf : c.frame? = some f)
    (hkind : c.isKnownRequest = true ∨ f.kind ∉ requestKinds) : c = Instr.ofFrame f := by
  cases c with
  | unknownRequest q k b =>
    cases hf
    refine (Laws.FrameRoundTrip.ofFrame_unknown q k b (Bool.eq_false_iff.mpr fun h => ?_)).symm
    exact hkind.elim nofun fun hk => hk (List.contains_iff_mem.mp h)
  | _ => cases hf <;> rfl

/-- The time of a command with a frame is that of its frame's turn. -/
theorem Instr.dueAt_frame {f : Frame} (hf : e.frame? = some f) : e.dueAt s ↔ s.takesWaiting e := by
  cases e <;> first | exact Iff.rfl | exact nomatch hf

theorem mem_dueSamples : e ∈ dueSamples s ↔ (∃ i circuit, e = .rawChange i circuit) ∧ e.dueAt s := by
  simp only [dueSamples, List.mem_filterMap, List.mem_finRange, true_and]
  constructor
  · rintro ⟨i, h⟩
    split at h
    · next f hf =>
      simp only [Option.ite_none_left_eq_some, Option.some.injEq, Bool.or_eq_true, beq_iff_eq, not_or,
        Bool.not_eq_true] at h
      obtain ⟨⟨hsampled, hne⟩, rfl⟩ := h
      exact ⟨⟨i, _, rfl⟩, rfl, f, hf, hsampled, hne⟩
    · cases h
  · rintro ⟨⟨i, circuit, rfl⟩, rfl, f, hf, hsampled, hne⟩
    refine ⟨i, ?_⟩
    rw [hf]
    simp only [hsampled, Bool.false_or, Filter.sample, beq_eq_false_iff_ne.mpr hne]
    rfl

theorem mem_dueQualifications : e ∈ dueQualifications s ↔ (∃ i, e = .qualification i) ∧ e.dueAt s := by
  simp only [dueQualifications, List.mem_filterMap, List.mem_finRange, true_and]
  constructor
  · rintro ⟨i, h⟩
    split at h
    · next f hf =>
      split at h
      · next p hp =>
        rw [Option.ite_none_right_eq_some, Option.some.injEq] at h
        obtain ⟨hover, rfl⟩ := h
        exact ⟨⟨i, rfl⟩, f, p, hf, hp, of_decide_eq_true hover⟩
      · cases h
    · cases h
  · rintro ⟨⟨i, rfl⟩, f, p, hf, hp, hover⟩
    refine ⟨i, ?_⟩
    rw [hf]
    dsimp only
    rw [hp]
    exact if_pos (decide_eq_true hover)

theorem Claim.expiredBy_iff {c : Claim} {now : Nat} :
    c.expiredBy now = true ↔ ∃ t, c.expiry = some t ∧ t ≤ now := by
  obtain ⟨level, origin, expiry⟩ := c
  cases expiry <;> simp [Claim.expiredBy]

theorem Line.holds_iff {l : Line} {cls : ClaimClass} {test : Claim → Bool} :
    l.holds cls test = true ↔ ∃ c, l.claims.get cls = some c ∧ test c = true := by
  unfold Line.holds
  cases l.claims.get cls <;> simp

theorem mem_dueExpiries : e ∈ dueExpiries s ↔ (∃ i cls, e = .claimExpiry i cls) ∧ e.dueAt s := by
  simp only [dueExpiries, List.mem_flatMap, List.mem_filterMap, List.mem_finRange, true_and,
    Option.ite_none_right_eq_some, Option.some.injEq, Line.holds_iff, Claim.expiredBy_iff]
  constructor
  · rintro ⟨i, cls, hcls, ⟨c, hc, t, ht, hover⟩, rfl⟩
    exact ⟨⟨i, cls, rfl⟩, hcls, c, t, hc, ht, hover⟩
  · rintro ⟨⟨i, cls, rfl⟩, hcls, c, t, hc, ht, hover⟩
    exact ⟨i, cls, hcls, ⟨c, hc, t, ht, hover⟩, rfl⟩

theorem mem_ite_singleton {p : Prop} [Decidable p] {a : Instr} : e ∈ (if p then [a] else []) ↔ e = a ∧ p := by
  split_ifs with h <;> simp [h]

theorem mem_dueSafeN : e ∈ dueSafeN s ↔
    ((∃ level, e = .safeNChange level) ∨ e = .safeNQualification) ∧ e.dueAt s := by
  have hsample : (if s.session.safeN.sampled || s.pins.safeN == s.session.safeN.raw then []
      else [Instr.safeNChange s.pins.safeN]) =
      if !(s.session.safeN.sampled || s.pins.safeN == s.session.safeN.raw) then
        [Instr.safeNChange s.pins.safeN] else [] := by
    cases s.session.safeN.sampled || s.pins.safeN == s.session.safeN.raw <;> rfl
  rw [dueSafeN, hsample, List.mem_append, mem_ite_singleton, mem_ite_singleton, SafeFilter.complete_iff]
  simp only [Bool.not_eq_true', Bool.or_eq_false_iff, beq_eq_false_iff_ne]
  constructor
  · rintro (⟨rfl, hsampled, hne⟩ | ⟨rfl, hover⟩)
    · exact ⟨.inl ⟨_, rfl⟩, rfl, hsampled, hne⟩
    · exact ⟨.inr rfl, hover⟩
  · rintro ⟨⟨level, rfl⟩ | rfl, hdue⟩
    · obtain ⟨rfl, hsampled, hne⟩ := hdue
      exact .inl ⟨rfl, hsampled, hne⟩
    · exact .inr ⟨rfl, hdue⟩

theorem mem_dueSchedule : e ∈ dueSchedule s ↔ (e = .dueArrival ∨ e = .guardDeadline) ∧ e.dueAt s := by
  rw [dueSchedule, List.mem_append, mem_ite_singleton, mem_ite_singleton, Schedule.nextDue_isSome,
    Schedule.nextDeadline_isSome, or_and_right]
  exact or_congr (and_congr_right fun h => h ▸ Iff.rfl) (and_congr_right fun h => h ▸ Iff.rfl)

theorem mem_dueTriggers : e ∈ dueTriggers s ↔ (e = .fireTime ∨ ∃ k, e = .holdoffEnd k) ∧ e.dueAt s := by
  have hfire : (List.finRange 16).any (fun k => s.slots[k].fireDueBy s.now) = true ↔ Instr.fireTime.dueAt s := by
    simp only [List.any_eq_true, List.mem_finRange, true_and, Slot.fireDueBy_iff]
    rfl
  simp only [dueTriggers, List.mem_append, mem_ite_singleton, hfire, List.mem_filterMap, List.mem_finRange, true_and,
    Option.ite_none_right_eq_some, Option.some.injEq, Slot.holdoffOverBy_iff]
  rw [or_and_right]
  refine or_congr (and_congr_right fun h => h ▸ Iff.rfl) ?_
  constructor
  · rintro ⟨k, hover, rfl⟩
    exact ⟨⟨k, rfl⟩, hover⟩
  · rintro ⟨⟨k, rfl⟩, hover⟩
    exact ⟨k, hover, rfl⟩

theorem mem_dueLease : e ∈ dueLease s ↔ (e = .warningArrival ∨ e = .leaseExpiry) ∧ e.dueAt s := by
  have hactive : s.session.isActive = true ↔ s.session.state = .active := decide_eq_true_iff
  unfold dueLease
  by_cases h : s.session.isActive = true
  · rw [if_pos h, List.mem_append, mem_ite_singleton, mem_ite_singleton, reached_iff, reached_iff, or_and_right]
    have hstate := hactive.mp h
    exact or_congr (and_congr_right fun he => he ▸ (and_iff_right hstate).symm)
      (and_congr_right fun he => he ▸ (and_iff_right hstate).symm)
  · rw [if_neg h]
    refine iff_of_false List.not_mem_nil ?_
    rintro ⟨rfl | rfl, hstate, -⟩ <;> exact h (hactive.mpr hstate)

/-- The end of a commit, as its verify step leaves it. -/
theorem commitEnd_iff {draw : Nat} {n started now : Nat} :
    e ∈ (if Config.mediaFault draw then
        if started + commitFaultTime n ≤ now then [Instr.commitCompletion false] else []
      else if started + commitTime n ≤ now then [Instr.commitCompletion true] else []) ↔
      e = .commitCompletion (!Config.mediaFault draw) ∧
        started + (20 + n + 2 + (if !Config.mediaFault draw then 1 else 0)) * 1000 ≤ now := by
  cases Config.mediaFault draw with
  | false => exact mem_ite_singleton
  | true => exact mem_ite_singleton

theorem eraseEnd_iff {started now : Nat} {second : Bool} :
    e ∈ (if second then
        if started + 2 * eraseStepTime ≤ now then [Instr.eraseCompletion] else []
      else if started + eraseStepTime ≤ now then [Instr.eraseFirstStepEnd] else []) ↔
      (second = true ∧ e = .eraseCompletion ∧ started + 40000 ≤ now) ∨
        (second = false ∧ e = .eraseFirstStepEnd ∧ started + 20000 ≤ now) := by
  cases second with
  | false =>
    exact (mem_ite_singleton (p := started + 20000 ≤ now)).trans
      ⟨fun h => .inr ⟨rfl, h⟩, fun h => h.elim (fun h => nomatch h.1) And.right⟩
  | true =>
    exact (mem_ite_singleton (p := started + 40000 ≤ now)).trans
      ⟨fun h => .inl ⟨rfl, h⟩, fun h => h.elim And.right (fun h => nomatch h.1)⟩

theorem mem_dueStore : e ∈ dueStore s ↔
    ((∃ b, e = .commitCompletion b) ∨ (∃ b, e = .loadCompletion b) ∨ e = .eraseFirstStepEnd ∨
      e = .eraseCompletion ∨ ∃ b, e = .bootWriteCompletion b) ∧ e.dueAt s := by
  unfold dueStore
  constructor
  · intro h
    split at h
    · cases h
    · next p copy generation started draw hop =>
      obtain ⟨rfl, hover⟩ := commitEnd_iff.mp h
      exact ⟨.inl ⟨_, rfl⟩, p, copy, generation, started, draw, hop, rfl, hover⟩
    · next p started hop =>
      split at h
      · next n g rs hl =>
        simp only [List.mem_ite_nil_right, List.mem_singleton] at h
        obtain ⟨hover, rfl⟩ := h
        rw [readTime, ← Nat.add_assoc] at hover
        exact ⟨.inr (.inl ⟨_, rfl⟩), p, started, n, g, rs, hop, hl, rfl, hover⟩
      · cases h
    · next p first started second hop =>
      rcases eraseEnd_iff.mp h with ⟨rfl, rfl, hover⟩ | ⟨rfl, rfl, hover⟩
      · exact ⟨.inr (.inr (.inr (.inl rfl))), p, first, started, hop, hover⟩
      · exact ⟨.inr (.inr (.inl rfl)), p, first, started, hop, hover⟩
    · next value copy generation started draw hop =>
      simp only [List.mem_ite_nil_right, List.mem_singleton] at h
      obtain ⟨hover, rfl⟩ := h
      exact ⟨.inr (.inr (.inr (.inr ⟨_, rfl⟩))), value, copy, generation, started, draw, hop, rfl, hover⟩
  · rintro ⟨⟨b, rfl⟩ | ⟨b, rfl⟩ | rfl | rfl | ⟨b, rfl⟩, hdue⟩
    · obtain ⟨p, copy, generation, started, draw, hop, rfl, hover⟩ := hdue
      rw [hop]
      exact commitEnd_iff.mpr ⟨rfl, hover⟩
    · obtain ⟨p, started, n, g, rs, hop, hl, rfl, hover⟩ := hdue
      rw [hop]
      dsimp only
      rw [hl]
      dsimp only
      rw [readTime, ← Nat.add_assoc, if_pos hover]
      exact List.mem_singleton_self _
    · obtain ⟨p, first, started, hop, hover⟩ := hdue
      rw [hop]
      exact eraseEnd_iff.mpr (.inr ⟨rfl, rfl, hover⟩)
    · obtain ⟨p, first, started, hop, hover⟩ := hdue
      rw [hop]
      exact eraseEnd_iff.mpr (.inl ⟨rfl, rfl, hover⟩)
    · obtain ⟨value, copy, generation, started, draw, hop, rfl, hover⟩ := hdue
      rw [hop]
      dsimp only
      rw [if_pos (show started + bootWriteTime (!Config.mediaFault draw) ≤ s.now from hover)]
      exact List.mem_singleton_self _

theorem startupTime_le_iff {m : Media} {now : Nat} : m.startupTime ≤ now ↔ 2000 ≤ now ∧
    ∀ p n g rs, m.bootValue = some p → m.slots[p].loadable = some (n, g, rs) →
      3000 + 500 * rs.length ≤ now := by
  unfold Media.startupTime Media.bootProfile
  cases hboot : m.bootValue with
  | none => simp [examineTime]
  | some p =>
    dsimp only
    cases hl : m.slots[p].loadable with
    | none => exact iff_self_and.mpr fun _ p' n g rs hp hl' => nomatch (Option.some.inj hp ▸ hl).symm.trans hl'
    | some loadable =>
      obtain ⟨n, g, rs⟩ := loadable
      simp only [Option.map_some, examineTime, readTime]
      constructor
      · intro h
        refine ⟨by omega, fun p' n' g' rs' hp hl' => ?_⟩
        cases hp
        cases hl.symm.trans hl'
        omega
      · rintro ⟨-, h⟩
        have := h p n g rs rfl hl
        omega

theorem mem_dueStartup : e ∈ dueStartup s ↔ (∃ b, e = .startupLoadCompletion b) ∧ e.dueAt s := by
  rw [dueStartup, mem_ite_singleton, Bool.and_eq_true, decide_eq_true_iff, startupTime_le_iff]
  constructor
  · rintro ⟨rfl, hstarting, hover⟩
    exact ⟨⟨_, rfl⟩, hstarting, rfl, hover⟩
  · rintro ⟨⟨b, rfl⟩, hstarting, rfl, hover⟩
    exact ⟨rfl, hstarting, hover⟩

theorem mem_dueTransmitter : e ∈ dueTransmitter s ↔
    (e = .replyTransmissionEnd ∨ e = .noticeTransmissionEnd ∨ e = .retransmissionTime) ∧ e.dueAt s := by
  rw [dueTransmitter, List.mem_append, mem_ite_singleton, Link.retransmitBy_iff]
  constructor
  · rintro (h | ⟨rfl, hdue⟩)
    · split at h
      · cases h
      · next f since htx =>
        obtain ⟨rfl, hover⟩ := mem_ite_singleton.mp h
        exact ⟨.inl rfl, f, since, htx, (State.txOver_iff f since).mp hover⟩
      · next f since htx =>
        obtain ⟨rfl, hover⟩ := mem_ite_singleton.mp h
        exact ⟨.inr (.inl rfl), f, since, htx, (State.txOver_iff f since).mp hover⟩
    · exact ⟨.inr (.inr rfl), hdue⟩
  · rintro ⟨rfl | rfl | rfl, hdue⟩
    · obtain ⟨f, since, htx, hover⟩ := hdue
      rw [htx]
      exact .inl (mem_ite_singleton.mpr ⟨rfl, (State.txOver_iff f since).mpr hover⟩)
    · obtain ⟨f, since, htx, hover⟩ := hdue
      rw [htx]
      exact .inl (mem_ite_singleton.mpr ⟨rfl, (State.txOver_iff f since).mpr hover⟩)
    · exact .inr ⟨rfl, hdue⟩

theorem Link.gapOver_iff {l : Link} {now : Nat} : l.gapOver now = true ↔
    ∃ bs since, l.framer = .receiving bs since ∧ since + 5000 ≤ now := by
  unfold Link.gapOver
  cases l.framer <;> simp

theorem mem_dueReceiver : e ∈ dueReceiver s ↔
    (e = .frameGapTimeout ∨ e.frame? ≠ none) ∧ e.dueAt s := by
  rw [dueReceiver, List.mem_append, mem_ite_singleton, Link.gapOver_iff, or_and_right]
  refine or_congr (and_congr_right fun h => h ▸ Iff.rfl) ?_
  constructor
  · intro h
    split at h
    · next f rest hw =>
      rw [List.mem_ite_nil_left, List.mem_singleton, Bool.not_eq_true, Link.answering_eq_false] at h
      obtain ⟨⟨hreply, htx⟩, rfl⟩ := h
      have hf := Instr.frame_ofFrame f
      refine ⟨by rw [hf]; nofun, (Instr.dueAt_frame hf).mpr ⟨hreply, htx, f, by rw [hw]; rfl, hf, ?_⟩⟩
      by_cases hk : f.kind ∈ requestKinds
      · exact .inl (Instr.ofFrame_known f.seq f.kind f.body hk)
      · exact .inr hk
    · cases h
  · rintro ⟨hframe, hdue⟩
    obtain ⟨f, hf⟩ := Option.ne_none_iff_exists'.mp hframe
    obtain ⟨hreply, htx, f', hw, hf', hkind⟩ := (Instr.dueAt_frame hf).mp hdue
    obtain ⟨rest, hw⟩ := List.head?_eq_some_iff.mp hw
    rw [hw]
    dsimp only
    rw [List.mem_ite_nil_left, List.mem_singleton, Bool.not_eq_true, Link.answering_eq_false]
    exact ⟨⟨hreply, htx⟩, Instr.eq_ofFrame hf' hkind⟩

/-- The due events are, while the part is not held in reset, those whose time has come. -/
theorem mem_dueEvents : e ∈ dueEvents s ↔ s.held = false ∧ e.dueAt s := by
  unfold dueEvents
  cases hh : s.held with
  | true => simp
  | false =>
    simp only [Bool.false_eq_true, if_false, List.mem_append, true_and, mem_dueSamples, mem_dueQualifications,
      mem_dueExpiries, mem_dueSafeN, mem_dueSchedule, mem_dueTriggers, mem_dueLease, mem_dueStore, mem_dueStartup,
      mem_dueTransmitter, mem_dueReceiver, ← or_and_right]
    refine and_iff_right_of_imp fun hdue => ?_
    cases e with
    | validFrameArrival | ack | crcError | lenOutOfRange | characterFault | overrun | lineBreak | lineBreakEnd
    | powerOn | rstNAssert | rstNRelease | clockLimit | characterReceived | supplyBelowRange =>
      obtain ⟨-, -, _, -, hf, -⟩ := hdue
      cases hf
    | _ => simp [Instr.frame?]

/-! #### The step on an empty queue -/

theorem step_event {t : State} (hp : s.pending = []) (hnext : s.nextEvent = some (e, t)) : step s = exec e t := by
  unfold step
  rw [hp]
  dsimp only
  rw [hnext]

theorem step_tick (hp : s.pending = []) (hnext : s.nextEvent = none) : step s = .next s.tick := by
  unfold step
  rw [hp]
  dsimp only
  rw [hnext]

theorem State.nextEvent_due (h : dueEvents s ≠ []) :
    ∃ e ∈ dueEvents s, s.nextEvent = some (e, { s with freeIx := s.freeIx + 1 }) := by
  unfold State.nextEvent
  match hdue : dueEvents s with
  | [] => exact absurd hdue h
  | e :: es =>
    have hlt : Config.choice s.freeIx % (e :: es).length < (e :: es).length := Nat.mod_lt _ (Nat.succ_pos _)
    refine ⟨(e :: es)[Config.choice s.freeIx % (e :: es).length], List.getElem_mem hlt, ?_⟩
    dsimp only
    rw [List.getD_eq_getElem _ _ hlt]
    rfl

theorem State.nextEvent_limit (h : dueEvents s = []) (hl : lastTime ≤ s.now) :
    s.nextEvent = some (.clockLimit, s) := by
  unfold State.nextEvent
  rw [h]
  exact if_pos hl

theorem State.nextEvent_none (h : dueEvents s = []) (hl : s.now < lastTime) : s.nextEvent = none := by
  unfold State.nextEvent
  rw [h]
  exact if_neg (Nat.not_le.mpr hl)

/-- A line at an advance of the clock, as the statement says it. -/
theorem Line.latch_eq (l : Line) : l.latch =
    { l with filter := l.filter.map ({ · with
        drive := if l.config.mode = .sink then l.effective else none
        sampled := false }) } := by
  have hdrive : l.ownDrive = if l.config.mode = .sink then l.effective else none := by
    unfold Line.ownDrive
    cases l.config.mode <;> rfl
  obtain ⟨config, claims, refs, filter, glitches, circuit⟩ := l
  unfold Line.latch
  rw [hdrive]
  cases filter <;> rfl

/-- Settles O2: one of the due events, the limit of the clock, or an advance of the clock. -/
theorem idleStep : Obligations.IdleStep := by
  refine ⟨fun e s => mem_dueEvents, fun s hp => ⟨fun hdue => ?event, fun hdue hl => ?limit,
    fun hdue hl hh => ?stands, fun hdue hl hh => ?advances⟩⟩
  case event =>
    obtain ⟨e, he, hnext⟩ := State.nextEvent_due hdue
    exact ⟨e, he, step_event hp hnext⟩
  case limit => exact step_event hp (State.nextEvent_limit hdue hl)
  case stands =>
    rw [step_tick hp (State.nextEvent_none hdue hl), State.tick, if_pos hh]
  case advances =>
    refine ⟨_, step_tick hp (State.nextEvent_none hdue hl), ?_⟩
    rw [State.tick_running hh]
    refine ⟨rfl, fun i => ?_, rfl, rfl, rfl⟩
    simp only [Fin.getElem_fin, Vector.getElem_ofFn, Line.latch_eq]

end Sys2Proof.Machine
end


/-! ### Waiting and duplicate requests, and requests taken while TXD carries a notice (R179 to R181) -/

section
set_option Elab.async false
namespace Sys2Proof.Machine

/-! #### What an answer does not look at: the frame on TXD and what was sent last -/

/-- The part with another frame on TXD, and another one sent last. -/
def State.sending (tx : Tx) (last : Sent) (s : State) : State :=
  s.relinked (fun l => { l with tx := tx, lastSent := last }) id

/-- An answer whose state has another frame on TXD, and another one sent last. -/
def Answer.sending (tx : Tx) (last : Sent) : Answer → Answer
  | .done st content t => .done st content (t.sending tx last)
  | .refuse st addition => .refuse st addition

/-- Two answers that differ in TXD and in what was sent last alone, and leave the clock at this time. -/
def Answer.Alike (tx : Tx) (last : Sent) (now : Nat) (a a' : Answer) : Prop :=
  a' = a.sending tx last ∧ a.Keeps fun t => t.now = now

section Sending

variable {tx : Tx} {last : Sent} {s : State}

theorem Link.enqueue_sending (l : Link) (c : NoticeContent) :
    { l.enqueue c with tx := tx, lastSent := last } = ({ l with tx := tx, lastSent := last } : Link).enqueue c := by
  unfold Link.enqueue
  dsimp only
  split
  · split <;> rfl
  · rfl

theorem State.sending_enqueue (c : NoticeContent) : (s.sending tx last).enqueue c = (s.enqueue c).sending tx last :=
  State.relinked_enqueue Link.enqueue_sending s c

theorem State.sending_leaveAlone (e : Entry) (o : EntryOutcome) :
    (s.sending tx last).leaveAlone e o = (s.leaveAlone e o).sending tx last :=
  State.relinked_leaveAlone Link.enqueue_sending s e o

theorem State.sending_leave (e : Entry) (o : EntryOutcome) :
    (s.sending tx last).leave e o = (s.leave e o).sending tx last :=
  State.relinked_leave Link.enqueue_sending s e o

theorem State.sending_cancelGroup (group : Nat) (cause : CancelCause) :
    (s.sending tx last).cancelGroup group cause =
      ((s.cancelGroup group cause).1.sending tx last, (s.cancelGroup group cause).2) :=
  State.relinked_cancelGroup Link.enqueue_sending s group cause

theorem State.sending_leaveAll (o : EntryOutcome) :
    (s.sending tx last).leaveAll o = (s.leaveAll o).sending tx last := by
  have hfold (es : List Entry) (t : State) : es.foldl (fun s e => s.leaveAlone e o) (t.sending tx last) =
      (es.foldl (fun s e => s.leaveAlone e o) t).sending tx last := by
    induction es generalizing t with
    | nil => rfl
    | cons e es ih => rw [List.foldl_cons, List.foldl_cons, State.sending_leaveAlone, ih]
  exact hfold _ s

theorem State.sending_standDownAll : (s.sending tx last).standDownAll = s.standDownAll.sending tx last := rfl

theorem State.sending_discardStaging : (s.sending tx last).discardStaging = s.discardStaging.sending tx last := rfl

theorem State.sending_dropAllClaims : (s.sending tx last).dropAllClaims = s.dropAllClaims.sending tx last := rfl

theorem State.sending_clearAll : (s.sending tx last).clearAll = s.clearAll.sending tx last := by
  unfold State.clearAll
  rw [State.sending_leaveAll, State.sending_standDownAll, State.sending_dropAllClaims]

theorem State.sending_finishStore (op : StoreOp) (p : Option ProfileNo) (r : StoreResult) :
    (s.sending tx last).finishStore op p r = (s.finishStore op p r).sending tx last :=
  State.sending_enqueue (s := s.withStore _) _

theorem State.sending_abortAndAnnounce (c : FailsafeCause) :
    (s.sending tx last).abortAndAnnounce c = (s.abortAndAnnounce c).sending tx last := by
  have habort (t : State) : (t.sending tx last).abortLoad = t.abortLoad.sending tx last := by
    unfold State.abortLoad
    have hop : (t.sending tx last).store.operation = t.store.operation := rfl
    rw [hop]
    cases t.store.operation with
    | loading p started => exact State.sending_finishStore .load (some p) .aborted
    | none | committing | erasing | bootWrite => rfl
  have hannounce (t : State) : (t.sending tx last).announceFailsafe c = (t.announceFailsafe c).sending tx last :=
    State.sending_enqueue _
  have hdrawn : (s.sending tx last).drawn = s.drawn.sending tx last := rfl
  have hop : (s.sending tx last).store.operation.isLoading = s.store.operation.isLoading := rfl
  have hfree : (s.sending tx last).freeIx = s.freeIx := rfl
  unfold State.abortAndAnnounce
  rw [hop, hfree, hdrawn, habort, hannounce, hannounce, hannounce, habort]
  split_ifs <;> rfl

theorem State.sending_enterFailsafe (c : FailsafeCause) :
    (s.sending tx last).enterFailsafe c = (s.enterFailsafe c).sending tx last := by
  have hstart : State.mapLines { s.sending tx last with
        session := (s.sending tx last).session.enterFailsafe c (s.sending tx last).now } (fun _ l => l.enterFailsafe) =
      (State.mapLines { s with session := s.session.enterFailsafe c s.now }
        fun _ l => l.enterFailsafe).sending tx last := rfl
  unfold State.enterFailsafe
  dsimp only
  rw [hstart, State.sending_leaveAll, State.sending_standDownAll, State.sending_discardStaging,
    State.sending_abortAndAnnounce]

theorem State.sending_releaseIf (flag : Bool) (cls : ClaimClass) (test : Claim → Bool) :
    (s.sending tx last).releaseIf flag cls test = (s.releaseIf flag cls test).sending tx last := by
  cases flag <;> rfl

theorem State.sending_dropRefs (names : LineNo → Bool) :
    (s.sending tx last).dropRefs names = (s.dropRefs names).sending tx last := rfl

theorem State.sending_addRefs (names : LineNo → Bool) :
    (s.sending tx last).addRefs names = (s.addRefs names).sending tx last := rfl

theorem State.sending_setSlot (k : SlotNo) (slot : Slot) :
    (s.sending tx last).setSlot k slot = (s.setSlot k slot).sending tx last := rfl

theorem State.sending_define (k : SlotNo) (d : TriggerDef) :
    (s.sending tx last).define k d = (s.define k d).sending tx last := by
  unfold State.define
  rw [State.sending_dropRefs, State.sending_addRefs, State.sending_setSlot]
  rfl

theorem State.sending_delete (k : SlotNo) : (s.sending tx last).delete k = (s.delete k).sending tx last := by
  unfold State.delete
  rw [State.sending_releaseIf, State.sending_dropRefs, State.sending_setSlot]
  rfl

end Sending

/-! #### Answers that are alike -/

section Alike

variable {tx : Tx} {last : Sent} {now : Nat} {s : State} {body : List Byte}

theorem Answer.Alike.done {st : Status} {content : List Byte} {t t' : State} (ht : t' = t.sending tx last)
    (hnow : t.now = now) : Answer.Alike tx last now (.done st content t) (.done st content t') :=
  ⟨congrArg (Answer.done st content) ht, hnow⟩

theorem Answer.Alike.refuse {st : Status} {addition : List Byte} :
    Answer.Alike tx last now (.refuse st addition) (.refuse st addition) := ⟨rfl, trivial⟩

theorem Answer.Alike.withOperands {α : Type} {parsed : Option α} {own own' : α → Answer}
    (h : ∀ a, Answer.Alike tx last now (own a) (own' a)) :
    Answer.Alike tx last now (withOperands parsed own) (withOperands parsed own') := by
  unfold Machine.withOperands
  cases parsed with
  | none => exact .refuse
  | some a => exact h a

theorem Answer.Alike.onOutputs {lines : List LineNo} {own own' : Answer}
    (h : Answer.Alike tx last now own own') :
    Answer.Alike tx last now (onOutputs s lines own) (onOutputs (s.sending tx last) lines own') := by
  have hlines : (s.sending tx last).firstNotOutput lines = s.firstNotOutput lines := rfl
  unfold Machine.onOutputs
  rw [hlines]
  cases s.firstNotOutput lines with
  | none => exact h
  | some i => exact .refuse

theorem Answer.Alike.unlessBusy {own own' : Answer} (h : Answer.Alike tx last now own own') :
    Answer.Alike tx last now (unlessBusy s own) (unlessBusy (s.sending tx last) own') := by
  have hop : (s.sending tx last).store.operation = s.store.operation := rfl
  unfold Machine.unlessBusy
  rw [hop]
  split
  · exact .refuse
  · exact h

theorem Answer.Alike.whenStaging {own own' : ProfileNo → List ProfileRecord → Answer}
    (h : ∀ p rs, Answer.Alike tx last now (own p rs) (own' p rs)) :
    Answer.Alike tx last now (whenStaging s own) (whenStaging (s.sending tx last) own') := by
  have hst : (s.sending tx last).store.staging = s.store.staging := rfl
  unfold Machine.whenStaging
  rw [hst]
  cases s.store.staging with
  | staging p rs => exact h p rs
  | idle | committing => exact .refuse

end Alike

/-! #### The answers of the owning blocks -/

@[simp] theorem State.releaseIf_now (s : State) (flag : Bool) (cls : ClaimClass) (test : Claim → Bool) :
    (s.releaseIf flag cls test).now = s.now := by
  cases flag with
  | false => rfl
  | true => exact State.dropClaims_now s cls test

theorem State.cancelGroup_now (s : State) (group : Nat) (cause : CancelCause) :
    (s.cancelGroup group cause).1.now = s.now :=
  State.cancelGroup_keeps (fun t => t.now = s.now) (fun t e o ht => (State.leave_now t e o).trans ht) s group cause rfl

theorem State.enterFailsafe_now (s : State) (c : FailsafeCause) : (s.enterFailsafe c).now = s.now := by
  obtain ⟨link, -, h⟩ := State.enterFailsafe_eq s c
  rw [h]
  simp only [State.enteredFailsafe]

theorem State.closeSession_clearAll_now (s : State) : s.closeSession.clearAll.now = s.now := by
  rw [State.clearAll_eq _ rfl]
  simp

/-- An answer that looks neither at TXD nor at what was sent last, changes neither, and leaves the clock. -/
def AnswersAlike (own : State → Answer) : Prop :=
  ∀ (s : State) (tx : Tx) (last : Sent), Answer.Alike tx last s.now (own s) (own (s.sending tx last))

section Answers

variable {body : List Byte}

theorem answerIdentify_alike : AnswersAlike (answerIdentify body) := fun _ _ _ => .done rfl rfl

theorem answerStatus_alike : AnswersAlike (answerStatus body) := fun _ _ _ => .done rfl rfl

theorem answerReset_alike : AnswersAlike (answerReset body) := fun _ _ _ => .done rfl rfl

theorem answerUnknown_alike : AnswersAlike (answerUnknown body) := fun _ _ _ => .refuse

theorem answerOpen_alike : AnswersAlike (answerOpen body) := fun _ _ _ =>
  .withOperands fun _ => .done rfl rfl

theorem answerRenew_alike : AnswersAlike (answerRenew body) := fun _ _ _ =>
  .withOperands fun _ => .done rfl rfl

theorem answerClose_alike : AnswersAlike (answerClose body) := fun s _ _ =>
  .withOperands fun clear => match clear with
    | false => .done rfl rfl
    | true => .done (State.sending_clearAll (s := s.closeSession)) (State.closeSession_clearAll_now s)

theorem answerFailsafeNow_alike : AnswersAlike (answerFailsafeNow body) := fun s _ _ =>
  .done (State.sending_enterFailsafe .request) (State.enterFailsafe_now s .request)

theorem answerRecover_alike : AnswersAlike (answerRecover body) := fun s tx last =>
  .withOperands fun ms => by
    have hsafe : (s.sending tx last).session.safeN.asserted = s.session.safeN.asserted := rfl
    rw [hsafe]
    split
    · exact .refuse
    · exact .done rfl (by simp [State.recover])

theorem answerConfigureLines_alike : AnswersAlike (answerConfigureLines body) := fun s tx last =>
  .withOperands fun xs => by
    have huse : (s.sending tx last).firstInUse xs = s.firstInUse xs := rfl
    rw [huse]
    cases s.firstInUse xs with
    | none => exact .done rfl (by simp)
    | some x => exact .refuse

theorem answerSetBase_alike : AnswersAlike (answerSetBase body) := fun _ _ _ =>
  .withOperands fun _ => .onOutputs (.done rfl (by simp))

theorem answerSetFailsafe_alike : AnswersAlike (answerSetFailsafe body) := fun _ _ _ =>
  .withOperands fun _ => .onOutputs (.done rfl (by simp))

theorem answerPinLines_alike : AnswersAlike (answerPinLines body) := fun _ _ _ =>
  .withOperands fun _ => .onOutputs (.done rfl (by simp))

theorem answerUnpinLines_alike : AnswersAlike (answerUnpinLines body) := fun _ _ _ =>
  .withOperands fun _ => .onOutputs (.done rfl (by simp))

theorem answerReadLevels_alike : AnswersAlike (answerReadLevels body) := fun _ _ _ => .done rfl rfl

theorem answerReadLine_alike : AnswersAlike (answerReadLine body) := fun _ _ _ =>
  .withOperands fun _ => .done rfl (by simp)

theorem answerSetFilterClasses_alike : AnswersAlike (answerSetFilterClasses body) := fun _ _ _ =>
  .done rfl rfl

theorem answerReadJournal_alike : AnswersAlike (answerReadJournal body) := fun s tx last =>
  .withOperands fun (count, start) => by
    have hjournal : (s.sending tx last).journal = s.journal := rfl
    dsimp only
    rw [hjournal]
    cases s.journal.run start with
    | none => exact .refuse
    | some records => exact .done rfl rfl

theorem answerReleaseJournal_alike : AnswersAlike (answerReleaseJournal body) := fun s tx last => by
  have hjournal : (s.sending tx last).journal = s.journal := rfl
  unfold answerReleaseJournal
  rw [hjournal]
  cases s.journal.countThrough (BitVec.ofNat 32 (field body 0 4)) with
  | none => exact .refuse
  | some count => exact .done rfl rfl

theorem answerClearJournal_alike : AnswersAlike (answerClearJournal body) := fun _ _ _ => .done rfl rfl

theorem answerSetJournal_alike : AnswersAlike (answerSetJournal body) := fun _ _ _ =>
  .withOperands fun _ => .done rfl rfl

theorem answerSubmit_alike : AnswersAlike (answerSubmit body) := fun s tx last =>
  .withOperands fun x => by
    have hrefusal : (s.sending tx last).submitRefusal x = s.submitRefusal x := rfl
    rw [hrefusal]
    cases s.submitRefusal x with
    | none => exact .done rfl (by simp [State.admitted])
    | some refusal => exact .refuse

theorem answerCancelAction_alike : AnswersAlike (answerCancelAction body) := fun s tx last =>
  .withOperands fun (id, release) => by
    have hschedule : (s.sending tx last).schedule = s.schedule := rfl
    dsimp only
    rw [hschedule]
    cases s.schedule.find id with
    | none => exact .refuse
    | some e =>
      dsimp only
      rw [State.sending_leave, State.sending_releaseIf]
      exact .done rfl ((State.releaseIf_now ..).trans (State.leave_now ..))

theorem answerCancelGroup_alike : AnswersAlike (answerCancelGroup body) := fun s tx last =>
  .withOperands fun (group, release) => by
    dsimp only
    rw [State.sending_cancelGroup, State.sending_releaseIf]
    exact .done rfl ((State.releaseIf_now ..).trans (State.cancelGroup_now ..))

theorem answerQueryAction_alike : AnswersAlike (answerQueryAction body) := fun s tx last =>
  .withOperands fun id => by
    have hschedule : (s.sending tx last).schedule = s.schedule := rfl
    rw [hschedule]
    cases s.schedule.find id with
    | none => exact .refuse
    | some e => exact .done rfl rfl

theorem answerListSchedule_alike : AnswersAlike (answerListSchedule body) := fun _ _ _ =>
  .withOperands fun _ => .done rfl rfl

theorem answerReadOutcomes_alike : AnswersAlike (answerReadOutcomes body) := fun _ _ _ =>
  .withOperands fun clear => match clear with
    | false | true => .done rfl rfl

theorem answerDefineTrigger_alike : AnswersAlike (answerDefineTrigger body) := fun s tx last =>
  .withOperands fun (k, d) => by
    have hrefusal : (s.sending tx last).defineRefusal k d = s.defineRefusal k d := rfl
    dsimp only
    rw [hrefusal, State.sending_define]
    cases s.defineRefusal k d with
    | none => exact .done rfl (by simp [State.define])
    | some refusal => exact .refuse

theorem answerArmTrigger_alike : AnswersAlike (answerArmTrigger body) := fun _ _ _ =>
  .withOperands fun _ => .done rfl rfl

theorem answerDisarmTrigger_alike : AnswersAlike (answerDisarmTrigger body) := fun s tx last =>
  .withOperands fun (k, release) => by
    have hslots : (s.sending tx last).slots = s.slots := rfl
    dsimp only
    rw [hslots, State.sending_setSlot, State.sending_releaseIf]
    exact .done rfl (State.releaseIf_now ..)

theorem answerDeleteTrigger_alike : AnswersAlike (answerDeleteTrigger body) := fun s tx last =>
  .withOperands fun k => .done (State.sending_delete k) (by simp [State.delete])

theorem answerReadTrigger_alike : AnswersAlike (answerReadTrigger body) := fun _ _ _ =>
  .withOperands fun (_, clear) => match clear with
    | false | true => .done rfl rfl

theorem answerBeginProfile_alike : AnswersAlike (answerBeginProfile body) := fun s tx last =>
  .withOperands fun p => .unlessBusy <| by
    have hst : (s.sending tx last).store.staging = s.store.staging := rfl
    rw [hst]
    cases s.store.staging with
    | idle => exact .done rfl rfl
    | staging | committing => exact .refuse

theorem answerAppendRecord_alike : AnswersAlike (answerAppendRecord body) := fun _ _ _ =>
  .withOperands fun _ => .unlessBusy <| .whenStaging fun _ rs => by
    split
    · exact .refuse
    · exact .done rfl rfl

theorem answerCapture_alike : AnswersAlike (answerCapture body) := fun _ _ _ =>
  .unlessBusy <| .whenStaging fun _ _ => .done rfl rfl

theorem answerAbandonProfile_alike : AnswersAlike (answerAbandonProfile body) := fun _ _ _ =>
  .unlessBusy <| .whenStaging fun _ _ => .done rfl rfl

theorem answerCommitProfile_alike : AnswersAlike (answerCommitProfile body) := fun _ _ _ =>
  .unlessBusy <| .whenStaging fun _ rs => by
    cases invalidAt rs with
    | none => exact .done rfl rfl
    | some index => exact .refuse

theorem answerLoadProfile_alike : AnswersAlike (answerLoadProfile body) := fun s tx last =>
  .withOperands fun p => .unlessBusy <| by
    have hstore : (s.sending tx last).store = s.store := rfl
    have hblocked : (s.sending tx last).loadBlocked = s.loadBlocked := rfl
    rw [hstore, hblocked]
    cases s.store.media.slots[p].loadable with
    | none => exact .refuse
    | some loadable =>
      dsimp only
      split
      · exact .refuse
      · exact .done rfl rfl

theorem answerEraseProfile_alike : AnswersAlike (answerEraseProfile body) := fun _ _ _ =>
  .withOperands fun _ => .unlessBusy (.done rfl rfl)

theorem answerSetBootSlot_alike : AnswersAlike (answerSetBootSlot body) := fun _ _ _ =>
  .withOperands fun _ => .unlessBusy (.done rfl rfl)

theorem answerReadProfile_alike : AnswersAlike (answerReadProfile body) := fun _ _ _ =>
  .withOperands fun (source, _) => match source with
    | .staging => .done rfl rfl
    | .slot _ => .unlessBusy (.done rfl rfl)

end Answers

/-! #### The taking of a request -/

section Taking

variable {s : State} {c : Instr} {f : Frame} {own : List Byte → State → Answer}

/-- A request command serves its frame, with an answer that looks neither at TXD nor at what was sent last. -/
theorem exec_serve_alike (hf : c.frame? = some f) (hw : c.wellFormed = true) :
    ∃ own : List Byte → State → Answer,
      (∀ s, exec c s = .next (s.serve f own)) ∧ AnswersAlike (own f.body) := by
  cases c with
  | unknownRequest q k b =>
    cases hf
    obtain ⟨-, hack, hunknown⟩ := (unknownRequest_wellFormed ⟨q, k, b⟩).mp hw
    have hkind : (requestKinds.contains k || k == ackKind) = false := by
      simpa [ackKind] using ⟨hunknown, hack⟩
    exact ⟨answerUnknown, fun s => if_neg (by rw [hkind]; nofun), answerUnknown_alike⟩
  | identify => cases hf; exact ⟨_, fun _ => rfl, answerIdentify_alike⟩
  | status => cases hf; exact ⟨_, fun _ => rfl, answerStatus_alike⟩
  | reset => cases hf; exact ⟨_, fun _ => rfl, answerReset_alike⟩
  | openSession => cases hf; exact ⟨_, fun _ => rfl, answerOpen_alike⟩
  | renew => cases hf; exact ⟨_, fun _ => rfl, answerRenew_alike⟩
  | close => cases hf; exact ⟨_, fun _ => rfl, answerClose_alike⟩
  | failsafeNow => cases hf; exact ⟨_, fun _ => rfl, answerFailsafeNow_alike⟩
  | recover => cases hf; exact ⟨_, fun _ => rfl, answerRecover_alike⟩
  | configureLines => cases hf; exact ⟨_, fun _ => rfl, answerConfigureLines_alike⟩
  | setBase => cases hf; exact ⟨_, fun _ => rfl, answerSetBase_alike⟩
  | setFailsafe => cases hf; exact ⟨_, fun _ => rfl, answerSetFailsafe_alike⟩
  | pinLines => cases hf; exact ⟨_, fun _ => rfl, answerPinLines_alike⟩
  | unpinLines => cases hf; exact ⟨_, fun _ => rfl, answerUnpinLines_alike⟩
  | readLevels => cases hf; exact ⟨_, fun _ => rfl, answerReadLevels_alike⟩
  | readLine => cases hf; exact ⟨_, fun _ => rfl, answerReadLine_alike⟩
  | setFilterClasses => cases hf; exact ⟨_, fun _ => rfl, answerSetFilterClasses_alike⟩
  | readJournal => cases hf; exact ⟨_, fun _ => rfl, answerReadJournal_alike⟩
  | releaseJournal => cases hf; exact ⟨_, fun _ => rfl, answerReleaseJournal_alike⟩
  | clearJournal => cases hf; exact ⟨_, fun _ => rfl, answerClearJournal_alike⟩
  | setJournal => cases hf; exact ⟨_, fun _ => rfl, answerSetJournal_alike⟩
  | submitAction => cases hf; exact ⟨_, fun _ => rfl, answerSubmit_alike⟩
  | cancelAction => cases hf; exact ⟨_, fun _ => rfl, answerCancelAction_alike⟩
  | cancelGroup => cases hf; exact ⟨_, fun _ => rfl, answerCancelGroup_alike⟩
  | queryAction => cases hf; exact ⟨_, fun _ => rfl, answerQueryAction_alike⟩
  | listSchedule => cases hf; exact ⟨_, fun _ => rfl, answerListSchedule_alike⟩
  | readOutcomes => cases hf; exact ⟨_, fun _ => rfl, answerReadOutcomes_alike⟩
  | defineTrigger => cases hf; exact ⟨_, fun _ => rfl, answerDefineTrigger_alike⟩
  | armTrigger => cases hf; exact ⟨_, fun _ => rfl, answerArmTrigger_alike⟩
  | disarmTrigger => cases hf; exact ⟨_, fun _ => rfl, answerDisarmTrigger_alike⟩
  | deleteTrigger => cases hf; exact ⟨_, fun _ => rfl, answerDeleteTrigger_alike⟩
  | readTrigger => cases hf; exact ⟨_, fun _ => rfl, answerReadTrigger_alike⟩
  | beginProfile => cases hf; exact ⟨_, fun _ => rfl, answerBeginProfile_alike⟩
  | appendRecord => cases hf; exact ⟨_, fun _ => rfl, answerAppendRecord_alike⟩
  | capture => cases hf; exact ⟨_, fun _ => rfl, answerCapture_alike⟩
  | abandonProfile => cases hf; exact ⟨_, fun _ => rfl, answerAbandonProfile_alike⟩
  | commitProfile => cases hf; exact ⟨_, fun _ => rfl, answerCommitProfile_alike⟩
  | loadProfile => cases hf; exact ⟨_, fun _ => rfl, answerLoadProfile_alike⟩
  | eraseProfile => cases hf; exact ⟨_, fun _ => rfl, answerEraseProfile_alike⟩
  | setBootSlot => cases hf; exact ⟨_, fun _ => rfl, answerSetBootSlot_alike⟩
  | readProfile => cases hf; exact ⟨_, fun _ => rfl, answerReadProfile_alike⟩
  | _ => cases hf

/-- A request taken leaves a reply, and, taken on another TXD, the same state but for TXD. -/
theorem State.takeFrame_alike (hown : AnswersAlike (own f.body)) (s : State) (tx : Tx) (last : Sent) :
    (s.sending tx last).takeFrame f own = (s.takeFrame f own).sending tx last ∧
      (s.takeFrame f own).now = s.now ∧ ∃ r, (s.takeFrame f own).link.reply = some r := by
  have hcached : (s.sending tx last).link.cached f = s.link.cached f := rfl
  have hgate : gate f (s.sending tx last) = gate f s := rfl
  obtain ⟨hsending, hnow⟩ := hown s tx last
  unfold State.takeFrame
  rw [hcached, hgate, hsending]
  cases s.link.cached f with
  | some r => exact ⟨rfl, rfl, _, rfl⟩
  | none =>
    cases gate f s with
    | some st => exact ⟨rfl, rfl, _, rfl⟩
    | none =>
      cases hanswer : own f.body s with
      | refuse st addition => exact ⟨rfl, rfl, _, rfl⟩
      | done st content t =>
        rw [hanswer] at hnow
        exact ⟨rfl, hnow, _, rfl⟩

/-- A request taken keeps what TXD carries and what was sent last. -/
theorem State.takeFrame_tx (hown : AnswersAlike (own f.body)) (s : State) :
    (s.takeFrame f own).link.tx = s.link.tx ∧ (s.takeFrame f own).link.lastSent = s.link.lastSent := by
  obtain ⟨h, -, -⟩ := State.takeFrame_alike hown s s.link.tx s.link.lastSent
  have hself : s.sending s.link.tx s.link.lastSent = s := rfl
  rw [hself] at h
  rw [h]
  exact ⟨rfl, rfl⟩

/-- The taking of a frame out of the receive buffer leaves TXD and what was sent last, and looks at neither. -/
theorem State.received_sending (s : State) (f : Frame) : (s.received f).link.tx = s.link.tx ∧
    (s.received f).link.lastSent = s.link.lastSent ∧
    ∀ {tx : Tx} {last : Sent}, (s.sending tx last).received f = (s.received f).sending tx last := by
  have hwaiting (tx : Tx) (last : Sent) : (s.sending tx last).link.waiting = s.link.waiting := rfl
  simp only [State.received, hwaiting]
  split <;> exact ⟨rfl, rfl, rfl⟩

/-- A request that arrives, or is waiting, and is not taken. -/
theorem State.serve_waits (hh : s.held = false) (own : List Byte → State → Answer)
    (hw : ¬ ((s.present f).link.waiting.head? = some f ∧ ¬ (s.present f).link.answering))
    (hs : (s.present f).link.settled) : s.serve f own = s.present f := by
  unfold State.serve
  rw [State.event_running hh, if_neg hw]
  exact State.arbitrate_settled hs

theorem State.present_waiting (h : f ∈ s.link.waiting) : s.present f = s :=
  if_pos (List.contains_iff_mem.mpr h)

theorem State.present_arrives (h : f ∉ s.link.waiting) (ha : s.canArrive f = true) :
    s.present f = s.frameArrives f := by
  unfold State.present
  rw [if_neg (fun hw => h (List.contains_iff_mem.mp hw)), if_pos ha]

theorem State.present_kept_out (h : f ∉ s.link.waiting) (ha : s.canArrive f = false) : s.present f = s := by
  unfold State.present
  rw [if_neg (fun hw => h (List.contains_iff_mem.mp hw)), if_neg (by rw [ha]; nofun)]

theorem Link.answering_iff {l : Link} :
    l.answering = true ↔ l.reply ≠ none ∨ ∃ r since, l.tx = .reply r since := by
  rw [← Bool.not_eq_false, Link.answering_eq_false]
  simp only [not_and_or, not_forall, not_not, ne_eq]

theorem Link.cached_iff {l : Link} {r : Frame} :
    l.cached f = some r ↔ f.seq ≠ 0 ∧ l.cache = some ⟨f.seq, f.kind, r⟩ := by
  unfold Link.cached
  cases l.cache with
  | none => simp
  | some entry =>
    obtain ⟨seq, kind, reply⟩ := entry
    simp only [Option.ite_none_right_eq_some, Option.some.injEq]
    grind

end Taking

/-- Settles O16, by where the request finds the link: behind others, behind a notice on TXD, or in the cache. -/
theorem waitingAndDuplicateRequests : Obligations.WaitingAndDuplicateRequests := by
  refine ⟨fun l f => ⟨Link.answering_iff, fun r => Link.cached_iff⟩,
    fun c f s hf hw hh hs => ⟨fun hnew hhear hroom hbehind => ?arrives, fun hwaits hbehind => ?again,
      fun hnew hout => ?out⟩,
    fun c f n s since hf hw htakes htx => ?notice, fun c f r s hf hw hfree hseq hcache => ?duplicate⟩
  case duplicate =>
    obtain ⟨hkind, own, hexec⟩ := exec_serve hf hw
    rw [hexec, State.serve_duplicate hfree hkind (Link.cached_iff.mpr ⟨hseq, hcache⟩)]
  case again =>
    obtain ⟨-, own, hexec⟩ := exec_serve hf hw
    have hpresent := State.present_waiting hwaits
    rw [hexec, State.serve_waits hh own, hpresent]
    · rw [hpresent]
      exact fun ⟨hhead, hfree⟩ => hbehind.elim (fun h => h hhead) hfree
    · rwa [hpresent]
  case out =>
    obtain ⟨-, own, hexec⟩ := exec_serve hf hw
    have harrive : s.canArrive f = false := by
      rw [← Bool.not_eq_true, State.canArrive_iff]
      rintro ⟨-, hhear, hroom⟩
      exact hout.elim (fun h => h hhear) (Nat.not_lt.mpr hroom)
    have hpresent := State.present_kept_out hnew harrive
    have hhead : s.link.waiting.head? ≠ some f := fun h => hnew (List.mem_of_head? h)
    rw [hexec, State.serve_waits hh own, hpresent]
    · rw [hpresent]
      exact fun h => hhead h.1
    · rwa [hpresent]
  case arrives =>
    obtain ⟨hkind, own, hexec⟩ := exec_serve hf hw
    have harrive := State.canArrive_iff.mpr ⟨((wellFormed_iff hf).mp hw).1, hhear, hroom⟩
    have hpresent := (State.present_arrives hnew harrive).trans (State.frameArrives_request s hkind)
    rw [hexec, State.serve_waits hh own, hpresent]
    · rw [hpresent]
      rintro ⟨hhead, hfree⟩
      refine hbehind.elim (fun hne => hnew ?_) hfree
      obtain ⟨w, ws, hwaiting⟩ := List.exists_cons_of_ne_nil hne
      have hfirst : (s.link.waiting ++ [f]).head? = some f := hhead
      rw [hwaiting, List.cons_append, List.head?_cons, Option.some.injEq] at hfirst
      rw [hwaiting, hfirst]
      exact List.mem_cons_self
    · rw [hpresent]
      exact hs
  case notice =>
    obtain ⟨own, hexec, hown⟩ := exec_serve_alike hf hw
    have hkind := (exec_serve hf hw).1
    have ⟨_, _, _, _, hreply⟩ := htakes
    have hbusy : s.link.answering = false := (Link.answering_eq_false _).mpr ⟨hreply, by rw [htx]; nofun⟩
    have hidle : (s.sending .idle s.link.lastSent).link.answering = false :=
      (Link.answering_eq_false _).mpr ⟨hreply, nofun⟩
    obtain ⟨hrtx, hrlast, hrsending⟩ := State.received_sending s f
    obtain ⟨hsending, hnow, r, hr⟩ := State.takeFrame_alike hown (s.received f) .idle s.link.lastSent
    obtain ⟨httx, htlast⟩ := State.takeFrame_tx hown (s.received f)
    rw [hrtx, htx] at httx
    rw [hrlast] at htlast
    rw [State.received_now] at hnow
    refine ⟨(s.received f).takeFrame f own, r, httx, hr, htlast, hnow, ?_, ?_⟩
    · rw [hexec, State.serve_takes htakes hbusy hkind]
      refine congrArg Host.Outcome.next (State.arbitrate_settled fun h => ?_)
      rw [httx] at h
      cases h
    · refine (hexec (s.sending .idle s.link.lastSent)).trans (congrArg Host.Outcome.next ?_)
      rw [State.serve_takes (s := s.sending .idle s.link.lastSent) htakes hidle hkind, hrsending, hsending]
      generalize (s.received f).takeFrame f own = t at htlast hnow
      rw [← htlast, ← hnow]
      rfl

end Sys2Proof.Machine
end
